-- ==== Sys2Proof/Word.lean ====
section
/-! DEFINITION. The word types of the block: every value is an unsigned integer of a stated width (spec 00_scope R9, R12). -/

namespace Sys2Proof

/-- u8: one byte of the bus, of host memory, of a frame, of the CSD. -/
abbrev Byte := BitVec 8

/-- u32: a host register, a host byte address, a command argument. -/
abbrev Word := BitVec 32

/-- A command frame as the 48-bit word F of R120, first byte most significant. -/
abbrev FrameWord := BitVec 48

end Sys2Proof
end

