-- ==== Sys2Proof/Config.lean ====
section
/-! DEFINITION. What an implementation fixes (spec 00_scope R8): the OPEN parameters as one record, which the machine
takes as an argument (it stands in `State.cfg` and no step writes it), the values the source fixes, and the free value
of the card's answers. -/

namespace Sys2Proof.Config

/-- The OPEN parameters of R8, with the spec's names in camel case. -/
structure Params where
  r1PollBudget        : Word
  acmd41Budget        : Word
  acmd41IntervalMs    : Word
  tokenPollBudget     : Word
  tokenPollSleepMs    : Word
  busyPollBudget      : Word
  busyPollSleepMs     : Word
  retrySleepMs        : Word
  powerupDummyBytes   : Word
  initBaud            : Word
  dataBaud            : Word
  crcPlaceholder      : Byte
  acmd41SkipFirst     : Bool
  multiWriteBlockBusy : Bool
  progressInterval    : Word
  deriving DecidableEq, Repr

/-- R8's default column (log 6). -/
def Params.default : Params where
  r1PollBudget        := 200
  acmd41Budget        := 200
  acmd41IntervalMs    := 1
  tokenPollBudget     := 200
  tokenPollSleepMs    := 1
  busyPollBudget      := 200
  busyPollSleepMs     := 1
  retrySleepMs        := 200
  powerupDummyBytes   := 10
  initBaud            := 100000
  dataBaud            := 4000000
  crcPlaceholder      := 0x01
  acmd41SkipFirst     := true
  multiWriteBlockBusy := false
  progressInterval    := 4

/-- R10: a budget of 0 is no configuration; R8 types PROGRESS_INTERVAL as at least 1 (log 7). -/
def Params.valid (p : Params) : Bool :=
  p.r1PollBudget != 0 && p.acmd41Budget != 0 && p.tokenPollBudget != 0 && p.busyPollBudget != 0
    && p.progressInterval != 0

/-- BLOCK_SIZE, fixed (R8). -/
def blockSize : Nat := 512

/-- Bytes of a CSD block, fixed (R9). -/
def csdSize : Nat := 16

/-- MAX_INIT_ATTEMPTS, fixed (R8). -/
def maxInitAttempts : BitVec 4 := 8

/-- CMD0_CRC, fixed (R8). -/
def cmd0Crc : Byte := 0x95

/-- CMD8_CRC, fixed (R8). -/
def cmd8Crc : Byte := 0x87

/-- CMD8_ARG, fixed (R8). -/
def cmd8Arg : Word := 0x000001AA

/-- ACMD41_HCS_ARG, fixed (R8). -/
def acmd41HcsArg : Word := 0x40000000

/-- CMD16's argument, the block length (R188). -/
def cmd16Arg : Word := 0x00000200

/-- FREE VALUE (R27, U1): the byte the card answers in the n-th exchange ever made, when the state lists no coming
byte. No body, so nothing is known of it (log 3). -/
opaque cardByte : Nat → Byte

end Sys2Proof.Config
end

