-- ==== Sys2Proof/Syntax.lean ====
section
/-! DEFINITION. The instructions: one constructor per row of spec/opcode_table.json. A constructor carries exactly the
bits its row leaves open, so that no bit of a word is lost (R41: every bit of CMD is stored and read back). -/

namespace Sys2Proof

/-- The 41 rows of the opcode table: host command words (R140, R141), command frames (R142), and the bytes the block
sends or reads as tokens, responses and busy (R122, R128, R130, R131). -/
inductive Instr where
  /-- INIT (R330). `rest` is CMD[31:4]. -/
  | init (rest : BitVec 28)
  /-- READ (R323). `rest` is CMD[31:4]. -/
  | read (rest : BitVec 28)
  /-- WRITE (R324). `rest` is CMD[31:4]. -/
  | write (rest : BitVec 28)
  /-- IOCTL 4 (R326). `hi` is CMD[31:16], `mid` is CMD[7:4]. -/
  | ioctlSectorCount (hi : BitVec 16) (mid : BitVec 4)
  /-- IOCTL 5 (R327). -/
  | ioctlSectorSize (hi : BitVec 16) (mid : BitVec 4)
  /-- IOCTL 6 (R328). -/
  | ioctlCardType (hi : BitVec 16) (mid : BitVec 4)
  /-- IOCTL with any other code `iop` (R329). -/
  | ioctlOther (hi : BitVec 16) (iop : BitVec 8) (mid : BitVec 4)
  /-- Reserved OP values (R331). `rest` is CMD[31:4]. -/
  | reserved0 (rest : BitVec 28)
  | reserved5 (rest : BitVec 28)
  | reserved6 (rest : BitVec 28)
  | reserved7 (rest : BitVec 28)
  | reserved8 (rest : BitVec 28)
  | reserved9 (rest : BitVec 28)
  | reservedA (rest : BitVec 28)
  | reservedB (rest : BitVec 28)
  | reservedC (rest : BitVec 28)
  | reservedD (rest : BitVec 28)
  | reservedE (rest : BitVec 28)
  | reservedF (rest : BitVec 28)
  /-- CMD0, frame 40 00 00 00 00 95 (R180). -/
  | cmd0
  /-- CMD8, frame 48 00 00 01 AA 87 (R181). -/
  | cmd8
  /-- CMD55 (R182). `crc` is frame byte 5. -/
  | cmd55 (crc : Byte)
  /-- ACMD41 with argument 0 (R183). -/
  | acmd41V1 (crc : Byte)
  /-- ACMD41 with the HCS bit (R184). -/
  | acmd41V2 (crc : Byte)
  /-- CMD58 in the V2 loop, Discard(4) (R185). -/
  | cmd58Loop (crc : Byte)
  /-- CMD58 after the V2 loop, Capture(4) (R186). -/
  | cmd58Final (crc : Byte)
  /-- CMD9 (R187). -/
  | cmd9 (crc : Byte)
  /-- CMD16 with argument 512 (R188). -/
  | cmd16 (crc : Byte)
  /-- CMD17 at protocol address `paddr` (R189). -/
  | cmd17 (paddr : Word) (crc : Byte)
  /-- CMD18 (R190). -/
  | cmd18 (paddr : Word) (crc : Byte)
  /-- CMD12 (R191). -/
  | cmd12 (crc : Byte)
  /-- CMD24 (R192). -/
  | cmd24 (paddr : Word) (crc : Byte)
  /-- CMD25 (R193). -/
  | cmd25 (paddr : Word) (crc : Byte)
  /-- A valid R1 byte received by the R1 poll (R122, R173). `low` is its bits [6:0]. -/
  | r1Valid (low : BitVec 7)
  /-- The start token 0xFE received (R261). -/
  | tokenStartRx
  /-- The start token 0xFE sent, single-block write (R264). -/
  | tokenStartTx
  /-- The token 0xFC sent, one chunk of a multi-block write (R275). -/
  | tokenMultiWrite
  /-- The stop-transfer token 0xFD sent (R267). -/
  | tokenStopTran
  /-- A data response with low bits 0b00101 (R130, R264). `hi` is its bits [7:5]. -/
  | dataAccepted (hi : BitVec 3)
  /-- A data response with any other low bits (R130, R264). -/
  | dataRejected (d : Byte)
  /-- The busy byte 0x00 received (R131, R266). -/
  | busy
  deriving DecidableEq, Repr

end Sys2Proof
end

