-- ==== Sys2Proof/Machine/State.lean ====
section
/-! DEFINITION. The state of the block, every piece the spec gives it (10_state R30 to R59, 00_scope R8, R28), the host
memory it reaches (20_memory R92), and the model's own inputs: what the host will do, what the card will answer. Plain
data. The outcomes of a step that are no next state. -/

namespace Sys2Proof.Machine

/-- Why the machine stops with a fault. -/
inductive Fault where
  /-- Raised by the framer's MemRead and MemWrite when host memory refuses the access: R27, U2, D52 "the framer has no
  step (it is stuck), and no error code is produced". Safe: the spec gives no further behaviour (log 5). -/
  | hostMemoryRefused
  deriving DecidableEq, Repr

/-- Why a step is refused. -/
inductive Refusal where
  /-- Raised by an arm of `exec` for an instruction that has no meaning yet; no arm does. Safe. -/
  | notModelled (mnemonic : String)
  /-- Raised by the step when a budget is 0: R10 "A model refuses a configuration with a budget of 0" (log 7). Safe. -/
  | invalidConfig
  /-- Raised by a host access of `bytes` bytes at `offset` that R40 does not allow: "Any other access is refused" (U3,
  log 10). Safe. -/
  | hostAccess (bytes offset : Nat)
  /-- Raised by the framer when FRAME holds none of the 14 frames at the point where one is sent; no run reaches it
  (R141, log 23). Safe. -/
  | frameNotEmitted
  /-- Raised by the framer when the token operand is none of 0xFE, 0xFC, 0xFD at the point where it is sent; no run
  reaches it (R128, log 23). Safe. -/
  | tokenNotSent
  deriving DecidableEq, Repr

/-- The initialisation state machine (R32). -/
inductive InitState where
  | uninitialized | reset | cmd0Idle | versionProbe | v1Init | v2Init | voltageOk | csdRead | blockLenSet | ready | fail
  deriving DecidableEq, Repr

/-- Error codes (R340). -/
inductive ErrCode where
  | ok | busTimeout | illegalCommand | initFailed | dataTokenError | protocolViolation
  deriving DecidableEq, Repr

/-- card_type (R34). -/
inductive CardType where
  | standardCapacity | highCapacity
  deriving DecidableEq, Repr

/-- address_unit (R34). -/
inductive AddressUnit where
  | byte | block
  deriving DecidableEq, Repr

/-- The 14 forms of SendCommand's call (R142). -/
inductive Form where
  | cmd0 | cmd8 | cmd55 | acmd41V1 | acmd41V2 | cmd58Loop | cmd58Final | cmd9 | cmd16
  | cmd17 | cmd18 | cmd12 | cmd24 | cmd25
  deriving DecidableEq, Repr

/-- The position in the running operation's pseudocode: the next primitive to perform (R31 part 2). Each constructor
names the primitive that the next framer step performs. -/
inductive Pos where
  /-- No operation runs. -/
  | idle
  /-- InitStart's SetClock, CsDeassert, and power-up Xfer k (R211). -/
  | initClock | initDeassert | powerup
  /-- The moment of state Cmd0Idle (R214) and of state VoltageOk (R219). -/
  | cmd0Idle | voltageOk
  /-- The Sleep after an unsuccessful ACMD41 iteration (R216, R217). -/
  | acmdSleep
  /-- SetClock(DATA_BAUD), and INIT's complete(OK) with Ready (R236, R210). -/
  | readyClock | readyDone
  /-- SendCommand (R172): CsAssert with FRAME built; Xfer(FRAME[k]); the filler; R1 poll k; trailing byte k; the release
  after R1; the release after a timeout. -/
  | cmdIssue | cmdFrame | cmdSkip | cmdPoll | cmdTrail | cmdRelease | cmdReleaseClock | cmdTimeout | cmdTimeoutClock
  /-- RecvDataBlock (R262) with WaitToken's poll k and Sleep (R261); the MemWrite of byte k; CRC byte k; the release. -/
  | recvAssert | recvToken | recvTokenSleep | recvData | recvStore | recvCrc | recvRelease | recvReleaseClock
  /-- SendDataBlock (R264) and SendStopToken (R267): CsAssert; the token; MemRead and Xfer of byte k; CRC byte k; the data
  response; the filler after 0xFD. -/
  | txAssert | txToken | sendFetch | sendData | sendCrc | sendResponse | stopFiller
  /-- BusyWait's poll k and Sleep (R266). -/
  | busyPoll | busySleep
  /-- The release that ends a write (R274, R267). -/
  | endRelease | endReleaseClock
  /-- Abort (R176). -/
  | abortRelease | abortClock
  /-- BetweenAttempts (R212). -/
  | retryDeassert | retryClock | retrySleep
  /-- complete(code) (R351). -/
  | finish
  deriving DecidableEq, Repr

/-- One event of TRACE (R26). -/
inductive Event where
  /-- X(cs, m, b). -/
  | x (cs : Bool) (mosi miso : Byte)
  /-- CS(1), CS(0). -/
  | cs (level : Bool)
  | sleep (ms : Word)
  | clk (hz : Word)
  | mr (addr : Word) (v : Byte)
  | mw (addr : Word) (v : Byte)
  deriving DecidableEq, Repr

/-- What the host does next (R11, R144, R372). The model's own input (log 2). -/
inductive HostAction where
  /-- No host access: the framer takes a step. -/
  | tick
  /-- A write of `bytes` bytes of value v at register offset `offset` (R40). -/
  | write (bytes offset : Nat) (v : Word)
  /-- Such a write in the same step as a framer step, the write first (R50, R362; log 12). -/
  | writeWith (bytes offset : Nat) (v : Word)
  /-- A read of `bytes` bytes at `offset` (R40). -/
  | read (bytes offset : Nat)
  /-- Wait until STATUS.DONE = 1 (R144). -/
  | waitDone
  /-- The reset input (R390, R391). -/
  | reset
  /-- The host writes a byte of its own memory (R402). -/
  | memWrite (addr : Word) (v : Byte)
  /-- The host reads a byte of its own memory (R402). -/
  | memRead (addr : Word)
  deriving DecidableEq, Repr

/-- Host-writable registers (R41 to R44). -/
structure HostRegs where
  cmd      : Word
  blockNum : Word
  bufAddr  : Word
  bufLen   : Word
  deriving DecidableEq, Repr

/-- Card geometry (R34). -/
structure Geometry where
  sectorCount : Word
  cardType    : CardType
  addressUnit : AddressUnit
  geomValid   : Bool
  deriving DecidableEq, Repr

/-- Bus state (R35). `clockHz = none` is "unset". -/
structure Bus where
  csAsserted : Bool
  clockHz    : Option Word
  deriving DecidableEq, Repr

/-- Command-engine registers (R36). -/
structure CmdRegs where
  frame     : Vector Byte 6
  cap       : Vector Byte 4
  lastIdx   : BitVec 6
  lastR1    : Byte
  lastTo    : Bool
  lastValid : Bool
  deriving DecidableEq, Repr

/-- Operation registers (R38). -/
structure OpRegs where
  busy       : Bool
  done       : Bool
  err        : ErrCode
  result     : Word
  resValid   : Bool
  ovr        : Bool
  attempt    : BitVec 4
  blocksDone : Word
  progIp     : Bool
  doneIe     : Bool
  progIe     : Bool
  latOp      : BitVec 4
  latIop     : BitVec 8
  latBlk     : Word
  latAddr    : Word
  latLen     : Word
  deriving DecidableEq, Repr

/-- The position and the locals of the running operation's pseudocode (R31 part 2; log 9). -/
structure Seq where
  pos   : Pos
  /-- The SendCommand call in progress, or the last one. -/
  form  : Form
  /-- SendCommand's `b`. -/
  r1    : Byte
  /-- The counter of the innermost loop. -/
  k     : Nat
  /-- The counter of the ACMD41 loop. -/
  iter  : Nat
  /-- SendDataBlock's operand `t`, or 0xFD. -/
  tok   : Byte
  /-- The byte between host memory and the bus. -/
  datum : Byte
  /-- The code that `complete` will write. -/
  code  : ErrCode
  deriving DecidableEq, Repr

/-- What is outside the block, as inputs (R11; log 2, 3, 5, 11). -/
structure Env where
  /-- What the host does next, first action first. -/
  host    : List HostAction
  /-- The bytes the card answers next, first byte first. -/
  miso    : List Byte
  /-- How many exchanges have been made. -/
  drawn   : Nat
  /-- Ranges (first address, size) that host memory refuses. -/
  refused : List (Nat × Nat)
  /-- The value the host's last read returned. -/
  rdata   : Word
  deriving DecidableEq, Repr

structure State where
  /-- The parameters of R8. -/
  cfg       : Config.Params
  host      : HostRegs
  op        : OpRegs
  initState : InitState
  geom      : Geometry
  bus       : Bus
  cmd       : CmdRegs
  /-- CSD[0..15] (R37). -/
  csd       : Vector Byte 16
  seq       : Seq
  /-- TRACE (R28), newest event first. -/
  traceRev  : List Event
  /-- Host memory (R92), in the canonical form of `Memory.wf`. -/
  mem       : List Host.Cell
  env       : Env
  deriving DecidableEq, Repr

/-- R390 with the reset values of R32 to R38 and R41 to R58; parameters at R8's defaults; nothing outside listed. -/
def State.reset : State where
  cfg       := Config.Params.default
  host      := { cmd := 0, blockNum := 0, bufAddr := 0, bufLen := 0 }
  op        := { busy := false, done := false, err := .ok, result := 0, resValid := false, ovr := false, attempt := 0,
                 blocksDone := 0, progIp := false, doneIe := false, progIe := false, latOp := 0, latIop := 0,
                 latBlk := 0, latAddr := 0, latLen := 0 }
  initState := .uninitialized
  geom      := { sectorCount := 0, cardType := .standardCapacity, addressUnit := .byte, geomValid := false }
  bus       := { csAsserted := false, clockHz := none }
  cmd       := { frame := #v[0, 0, 0, 0, 0, 0], cap := #v[0, 0, 0, 0], lastIdx := 0, lastR1 := 0, lastTo := false,
                 lastValid := false }
  csd       := #v[0, 0, 0, 0, 0, 0, 0, 0, 0, 0, 0, 0, 0, 0, 0, 0]
  seq       := { pos := .idle, form := .cmd0, r1 := 0, k := 0, iter := 0, tok := 0, datum := 0, code := .ok }
  traceRev  := []
  mem       := []
  env       := { host := [], miso := [], drawn := 0, refused := [], rdata := 0 }

/-- TRACE in the order of R28. -/
def State.trace (s : State) : List Event := s.traceRev.reverse

end Sys2Proof.Machine
end

