-- ==== Sys2Proof/Machine/Ops.lean ====
section
/-! DEFINITION. The named operations over memory, the bus and the position: the primitives of 00_scope R26, host memory,
and the end of an operation (complete, Abort, raise: 60_exceptions R351, R352, 40_command_engine R176). -/

namespace Sys2Proof.Machine

/-! ### Host memory (R92), one byte at a time (R95) -/

/-- What a byte of host memory that is not listed reads as. DESIGN CHOICE (log 4), unsafe: the spec gives host memory no
contents. -/
def memoryDefault : Byte := 0x00

/-- The byte at an address. -/
def memoryRead : List Host.Cell → Nat → Byte
  | [], _ => memoryDefault
  | (b, w) :: rest, a => if a = b then w else memoryRead rest a

/-- Memory with the byte at `a` set to `v`, in canonical form. -/
def memoryWrite : List Host.Cell → Nat → Byte → List Host.Cell
  | [], a, v => if v = memoryDefault then [] else [(a, v)]
  | (b, w) :: rest, a, v =>
    if a < b then (if v = memoryDefault then (b, w) :: rest else (a, v) :: (b, w) :: rest)
    else if a = b then (if v = memoryDefault then rest else (a, v) :: rest)
    else (b, w) :: memoryWrite rest a v

/-- Addresses at least `lo`, strictly rising, no entry equal to the default. -/
def memoryWfFrom (lo : Nat) : List Host.Cell → Bool
  | [] => true
  | (a, v) :: rest => decide (lo ≤ a) && v != memoryDefault && memoryWfFrom (a + 1) rest

/-- The canonical form of host memory. -/
def Memory.wf (m : List Host.Cell) : Bool := memoryWfFrom 0 m

/-- The byte of host memory at a byte address. -/
def memByte (a : Word) (s : State) : Byte := memoryRead s.mem a.toNat

/-- R27: whether host memory takes an access at `a` (log 5). -/
def memAdmits (a : Word) (s : State) : Bool :=
  !(s.env.refused.any fun r => decide (r.1 ≤ a.toNat) && decide (a.toNat < r.1 + r.2))

/-! ### Positions -/

/-- The position becomes `p`. -/
def goto (p : Pos) (s : State) : State := { s with seq := { s.seq with pos := p } }

/-- The position becomes `p`, at the first pass of its loop. -/
def enter (p : Pos) (s : State) : State := { s with seq := { s.seq with pos := p, k := 0 } }

/-- The position becomes `p`, at the next pass of its loop. -/
def again (p : Pos) (s : State) : State := { s with seq := { s.seq with pos := p, k := s.seq.k + 1 } }

/-! ### The primitives of R26 -/

/-- R27: the byte the card answers in the next exchange, a draw (log 3). -/
def nextMiso (s : State) : Byte :=
  match s.env.miso with
  | b :: _ => b
  | [] => Config.cardByte s.env.drawn

/-- One exchange in which the block sends `m` and the card answers `b`. -/
def exchange (m b : Byte) (s : State) : State :=
  { s with
    traceRev := .x s.bus.csAsserted m b :: s.traceRev
    env := { s.env with miso := s.env.miso.tail, drawn := s.env.drawn + 1 } }

/-- `Xfer(m)`; the byte received is `nextMiso` of the state before. -/
def xfer (m : Byte) (s : State) : State := exchange m (nextMiso s) s

/-- `CsAssert()`: an event only if the level changes. -/
def csAssert (s : State) : State :=
  { s with
    bus := { s.bus with csAsserted := true }
    traceRev := if s.bus.csAsserted then s.traceRev else .cs true :: s.traceRev }

/-- `CsDeassert()`: an event only if the level changes. -/
def csDeassert (s : State) : State :=
  { s with
    bus := { s.bus with csAsserted := false }
    traceRev := if s.bus.csAsserted then .cs false :: s.traceRev else s.traceRev }

/-- `Sleep(ms)`: nothing if ms = 0. -/
def sleep (ms : Word) (s : State) : State :=
  { s with traceRev := if ms = 0 then s.traceRev else .sleep ms :: s.traceRev }

/-- `SetClock(hz)`. -/
def setClock (hz : Word) (s : State) : State :=
  { s with bus := { s.bus with clockHz := some hz }, traceRev := .clk hz :: s.traceRev }

/-- `datum <- MemRead(a, 1)`, of an address host memory admits. -/
def memRead (a : Word) (s : State) : State :=
  { s with seq := { s.seq with datum := memByte a s }, traceRev := .mr a (memByte a s) :: s.traceRev }

/-- `MemWrite(a, 1, v)`, at an address host memory admits. -/
def memWrite (a : Word) (v : Byte) (s : State) : State :=
  { s with mem := memoryWrite s.mem a.toNat v, traceRev := .mw a v :: s.traceRev }

/-! ### Ending an operation -/

/-- R351: `complete(code)`, three writes in one step; the block is idle after it. -/
def complete (code : ErrCode) (s : State) : State :=
  { s with op := { s.op with err := code, busy := false, done := true }, seq := { s.seq with pos := .idle } }

/-- The operation goes on to its last step, `complete(code)` (R351). -/
def finishWith (code : ErrCode) (s : State) : State :=
  { s with seq := { s.seq with pos := .finish, code := code } }

/-- R352: `raise Err(kind)` in a running operation: Abort (R176: release CS with one trailing 0xFF if it is asserted), then
complete. This is the block's one exception entry. -/
def raise (kind : ErrCode) (s : State) : State :=
  if s.bus.csAsserted then { s with seq := { s.seq with pos := .abortRelease, code := kind } }
  else finishWith kind s

/-- R352 for an operation that has performed no primitive: with CS deasserted Abort does nothing and the operation
completes at once (R141, R322; log 1). -/
def raiseAtOnce (kind : ErrCode) (s : State) : State :=
  if s.bus.csAsserted then raise kind s else complete kind s

end Sys2Proof.Machine
end

