-- ==== Sys2Proof/Machine/Operands.lean ====
section
/-! DEFINITION. Operand forms: SendCommand's operands per frame form (30_encoding R142), the CRC byte (40_command_engine
R171), frame bytes (R121), buffer addresses (20_memory R93), the protocol address (42_data_transfer R270). -/

namespace Sys2Proof.Machine

/-- SendCommand's `trailing` operand (R126). -/
inductive Trailing where
  | discard (n : Nat)
  | capture (n : Nat)
  deriving DecidableEq, Repr

/-- How many trailing bytes are exchanged (R126). -/
def trailingCount : Trailing → Nat
  | .discard n => n
  | .capture n => n

/-- Whether trailing bytes are stored in CAP (R126). -/
def trailingCaptures : Trailing → Bool
  | .discard _ => false
  | .capture _ => true

/-- R142: the command index (byte 0 is 0x40 with it). -/
def formIndex : Form → BitVec 6
  | .cmd0 => 0
  | .cmd8 => 8
  | .cmd55 => 55
  | .acmd41V1 | .acmd41V2 => 41
  | .cmd58Loop | .cmd58Final => 58
  | .cmd9 => 9
  | .cmd16 => 16
  | .cmd17 => 17
  | .cmd18 => 18
  | .cmd12 => 12
  | .cmd24 => 24
  | .cmd25 => 25

/-- R142, column "trail". -/
def formTrailing : Form → Trailing
  | .cmd8 | .cmd58Final => .capture 4
  | .cmd58Loop => .discard 4
  | .cmd0 | .cmd55 | .acmd41V1 | .acmd41V2 | .cmd9 | .cmd16 | .cmd17 | .cmd18 | .cmd12 | .cmd24 | .cmd25 => .discard 0

/-- R142, column "rel". -/
def formRelease : Form → Bool
  | .cmd9 | .cmd17 | .cmd18 => false
  | .cmd0 | .cmd8 | .cmd55 | .acmd41V1 | .acmd41V2 | .cmd58Loop | .cmd58Final | .cmd16 | .cmd12 | .cmd24 | .cmd25 => true

/-- R142, column "skip". -/
def formSkipFirst (cfg : Config.Params) : Form → Bool
  | .acmd41V1 | .acmd41V2 => cfg.acmd41SkipFirst
  | .cmd12 => true
  | .cmd0 | .cmd8 | .cmd55 | .cmd58Loop | .cmd58Final | .cmd9 | .cmd16 | .cmd17 | .cmd18 | .cmd24 | .cmd25 => false

/-- The CMD.OP value of the operation that sends a form: INIT, READ or WRITE (R170, R180 to R193). -/
def formOp : Form → BitVec 4
  | .cmd17 | .cmd18 | .cmd12 => 0x2
  | .cmd24 | .cmd25 => 0x3
  | .cmd0 | .cmd8 | .cmd55 | .acmd41V1 | .acmd41V2 | .cmd58Loop | .cmd58Final | .cmd9 | .cmd16 => 0x1

/-- R171: the CRC7 placeholder evaluator, a constant table. -/
def crcByte (cfg : Config.Params) (index : BitVec 6) (arg : Word) : Byte :=
  if index = 0 ∧ arg = 0 then Config.cmd0Crc
  else if index = 8 ∧ arg = Config.cmd8Arg then Config.cmd8Crc
  else cfg.crcPlaceholder

/-- R121: FRAME[0..5], the argument big-endian (R90). -/
def frameBytes (index : BitVec 6) (arg : Word) (crc : Byte) : Vector Byte 6 :=
  #v[0x40 ||| index.setWidth 8, arg.extractLsb' 24 8, arg.extractLsb' 16 8, arg.extractLsb' 8 8, arg.extractLsb' 0 8, crc]

/-- R120: FRAME as the 48-bit word F, first byte most significant. -/
def frameAsWord (f : Vector Byte 6) : BitVec 48 := f[0] ++ f[1] ++ f[2] ++ f[3] ++ f[4] ++ f[5]

/-- The six bytes of a 48-bit word F (R120). -/
def frameOfWord (w : BitVec 48) : Vector Byte 6 :=
  #v[w.extractLsb' 40 8, w.extractLsb' 32 8, w.extractLsb' 24 8, w.extractLsb' 16 8, w.extractLsb' 8 8, w.extractLsb' 0 8]

/-- Byte k of FRAME; 0 beyond its end, which no run asks for. -/
def frameByte (f : Vector Byte 6) (k : Nat) : Byte := f.toList.getD k 0

/-- R270: the protocol address of the latched block number, mod 2^32. -/
def protocolAddress (s : State) : Word :=
  match s.geom.addressUnit with
  | .byte => s.op.latBlk * 512
  | .block => s.op.latBlk

/-- R271: `n = lat_len / 512`. -/
def blockCount (s : State) : Nat := s.op.latLen.toNat / Config.blockSize

/-- R93: the host address B(i) of transfer byte i. -/
def bufferAddress (i : Nat) (s : State) : Word := s.op.latAddr + BitVec.ofNat 32 i

/-- The host address of byte k of the block in progress, B(512*j + k) with j = blocks_done (R273, R275; log 16). -/
def blockByteAddress (s : State) : Word := bufferAddress (Config.blockSize * s.op.blocksDone.toNat + s.seq.k) s

/-- R127: the CCS bit, mask 0x40 of CAP[0]. -/
def ccsBit (cap : Vector Byte 4) : Bool := cap[0] &&& 0x40 != 0

end Sys2Proof.Machine
end

