-- ==== Sys2Proof/Machine/Flags.lean ====
section
/-! DEFINITION. Flag computations: the R1 flags (30_encoding R122, R123), the codes of the named states, and the words the
host reads (10_state R45 to R58), irq and CS_N (60_exceptions R360, R372). -/

namespace Sys2Proof.Machine

/-- R122: valid iff bit 7 is 0. -/
def r1IsValid (b : Byte) : Bool := !b.getLsbD 7

/-- R123: bit 0, IdleState. -/
def r1IdleState (b : Byte) : Bool := b.getLsbD 0

/-- R123: bit 2, IllegalCommand. -/
def r1IllegalCommand (b : Byte) : Bool := b.getLsbD 2

/-- R32: the 4-bit code of an init state. -/
def initCode : InitState → BitVec 4
  | .uninitialized => 0
  | .reset => 1
  | .cmd0Idle => 2
  | .versionProbe => 3
  | .v1Init => 4
  | .v2Init => 5
  | .voltageOk => 6
  | .csdRead => 7
  | .blockLenSet => 8
  | .ready => 9
  | .fail => 10

/-- R340: the 3-bit code of an error kind. -/
def errCode : ErrCode → BitVec 3
  | .ok => 0
  | .busTimeout => 1
  | .illegalCommand => 2
  | .initFailed => 3
  | .dataTokenError => 4
  | .protocolViolation => 5

/-- R34: 0 StandardCapacity, 1 HighCapacity. -/
def cardTypeBit : CardType → BitVec 1
  | .standardCapacity => 0
  | .highCapacity => 1

/-- R34: 0 Byte, 1 Block. -/
def addressUnitBit : AddressUnit → BitVec 1
  | .byte => 0
  | .block => 1

/-- A flag as one bit of a register. -/
def flagBit (b : Bool) : BitVec 1 := BitVec.ofBool b

/-- R31 part 1: the operation in progress, by its OP code. -/
def operationInProgress (s : State) : Option (BitVec 4) := if s.op.busy then some s.op.latOp else none

/-- R45: STATUS. -/
def statusWord (s : State) : Word :=
  (0 : BitVec 12) ++ s.op.attempt ++ initCode s.initState ++ (0 : BitVec 1) ++ errCode s.op.err ++ flagBit s.op.ovr
    ++ (0 : BitVec 2) ++ flagBit s.op.resValid ++ flagBit s.bus.csAsserted ++ flagBit (s.initState = .ready)
    ++ flagBit s.op.done ++ flagBit s.op.busy

/-- R53: GEOM. -/
def geomWord (s : State) : Word :=
  (0 : BitVec 29) ++ flagBit s.geom.geomValid ++ addressUnitBit s.geom.addressUnit ++ cardTypeBit s.geom.cardType

/-- R55: LAST_CMD. -/
def lastCmdWord (s : State) : Word :=
  flagBit s.cmd.lastValid ++ (0 : BitVec 14) ++ flagBit s.cmd.lastTo ++ s.cmd.lastR1 ++ (0 : BitVec 2) ++ s.cmd.lastIdx

/-- R56: CAP, the first captured byte most significant. -/
def capWord (s : State) : Word := s.cmd.cap[0] ++ s.cmd.cap[1] ++ s.cmd.cap[2] ++ s.cmd.cap[3]

/-- Byte k of the CSD; 0 beyond its end, which nothing asks for. -/
def csdByte (csd : Vector Byte 16) (k : Nat) : Byte := csd.toList.getD k 0

/-- R57: CSDk holds CSD[4k] to CSD[4k+3], the first most significant. -/
def csdWord (k : Nat) (s : State) : Word :=
  csdByte s.csd (4 * k) ++ csdByte s.csd (4 * k + 1) ++ csdByte s.csd (4 * k + 2) ++ csdByte s.csd (4 * k + 3)

/-- R58: INT_EN. -/
def intEnWord (s : State) : Word := (0 : BitVec 30) ++ flagBit s.op.progIe ++ flagBit s.op.doneIe

/-- R58: INT_STAT. -/
def intStatWord (s : State) : Word := (0 : BitVec 30) ++ flagBit s.op.progIp ++ flagBit s.op.done

/-- R360: the interrupt output. -/
def irq (s : State) : Bool := (s.op.done && s.op.doneIe) || (s.op.progIp && s.op.progIe)

/-- R372: the pin CS_N, low when CS is asserted (log 21). -/
def csN (s : State) : Bool := !s.bus.csAsserted

end Sys2Proof.Machine
end

