-- ==== Sys2Proof/Machine/Geometry.lean ====
section
/-! DEFINITION. The card-geometry parser (41_init_sequencer R235, R240, R246; 90_conflicts C1, C2 for the formulas). -/

namespace Sys2Proof.Machine

/-- R240: `((csd[8] << 8 | csd[9]) + 1) * 1024` in u32. -/
def v2Sectors (csd : Vector Byte 16) : Word :=
  (((csd[8].setWidth 32 <<< 8) ||| csd[9].setWidth 32) + 1) * 1024

/-- R246: `((csd[6] & 3) << 10) | (csd[7] << 2) | (csd[8] >> 6)`. -/
def legacyCSize (csd : Vector Byte 16) : Nat :=
  (((csd[6] &&& 3).toNat <<< 10) ||| (csd[7].toNat <<< 2)) ||| (csd[8].toNat >>> 6)

/-- R246: `((csd[9] & 3) << 1) | (csd[10] >> 7)`. -/
def legacyCSizeMult (csd : Vector Byte 16) : Nat :=
  ((csd[9] &&& 3).toNat <<< 1) ||| (csd[10].toNat >>> 7)

/-- R246: `csd[5] & 0xF`. -/
def legacyReadBlLen (csd : Vector Byte 16) : Nat := (csd[5] &&& 0xF).toNat

/-- R246: the product in Nat, then floor division by 512. -/
def legacySectorsNat (csd : Vector Byte 16) : Nat :=
  (((legacyCSize csd + 1) <<< (legacyCSizeMult csd + 2)) <<< legacyReadBlLen csd) / 512

/-- R246 as the u32 `sector_count`. -/
def legacySectors (csd : Vector Byte 16) : Word := BitVec.ofNat 32 (legacySectorsNat csd)

/-- R235: the CSD version, `csd[0] >> 6`. -/
def csdVersion (csd : Vector Byte 16) : Byte := csd[0] >>> 6

/-- R235: ParseGeometry writes sector_count and card_type; address_unit and geom_valid keep their values (R247). -/
def parseGeometry (s : State) : State :=
  if csdVersion s.csd = 0b01 then
    { s with geom := { s.geom with sectorCount := v2Sectors s.csd, cardType := .highCapacity } }
  else
    { s with geom := { s.geom with sectorCount := legacySectors s.csd, cardType := .standardCapacity } }

end Sys2Proof.Machine
end

