-- ==== Sys2Proof/Machine/Sequencer.lean ====
section
/-! DEFINITION. How the running operation goes on between primitives: SendCommand's call and return (40_command_engine
R170 to R174), the initialisation state machine (41_init_sequencer), the transfer sequences (42_data_transfer). Each
definition here is pure control: it picks the next primitive and writes registers, and touches neither bus nor memory
(log 1). -/

namespace Sys2Proof.Machine

/-! ### SendCommand -/

/-- The call of SendCommand (R172): FRAME is built (R121) with the CRC byte of R171; its first primitive comes next. -/
def startCommand (f : Form) (arg : Word) (s : State) : State :=
  { s with
    cmd := { s.cmd with frame := frameBytes (formIndex f) arg (crcByte s.cfg (formIndex f) arg) }
    seq := { s.seq with pos := .cmdIssue, form := f } }

/-- SendCommand from its first two lines on (R172): FRAME, then CsAssert; the six frame bytes come next. -/
def beginCommand (f : Form) (arg : Word) (crc : Byte) (s : State) : State :=
  csAssert
    { s with
      cmd := { s.cmd with frame := frameBytes (formIndex f) arg crc }
      seq := { s.seq with pos := .cmdFrame, form := f, k := 0 } }

/-! ### The initialisation state machine -/

/-- The end of an attempt in Fail (R220, R210): CS is deasserted; with attempts left BetweenAttempts comes next, otherwise
InitFailed is raised. -/
def attemptFailed (s : State) : State :=
  if s.op.attempt = Config.maxInitAttempts then raise .initFailed { s with initState := .fail }
  else goto .retryDeassert { s with initState := .fail }

/-- `goto Fail` (R220): Abort first. -/
def initFail (s : State) : State :=
  if s.bus.csAsserted then goto .abortRelease s else attemptFailed s

/-- The head of INIT's loop (R210) and state Reset (R213). -/
def beginAttempt (s : State) : State :=
  startCommand .cmd0 0 { s with op := { s.op with attempt := s.op.attempt + 1 }, initState := .reset }

/-- InitStart's assignments (R211), before its first primitive. A Ready block leaves Ready here (D38, R211, R322; log 8). -/
def initStart (s : State) : State :=
  { s with
    geom := { sectorCount := 0, cardType := .standardCapacity, addressUnit := .byte, geomValid := false }
    op := { s.op with attempt := 0 }
    initState := if s.initState = .ready then .reset else s.initState
    seq := { s.seq with pos := .initClock, form := .cmd0 } }

/-- One iteration of the ACMD41 loop of V1Init (R216): it starts with CMD55. -/
def v1Iteration (s : State) : State := startCommand .cmd55 0 s

/-- One iteration of the ACMD41 loop of V2Init (R217): it starts with CMD58. -/
def v2Iteration (s : State) : State := startCommand .cmd58Loop 0 s

/-- After VersionProbe (R215): the state machine enters V1Init or V2Init at the first iteration of its loop. -/
def enterV1Init (s : State) : State :=
  v1Iteration { s with initState := .v1Init, seq := { s.seq with iter := 0 } }

def enterV2Init (s : State) : State :=
  v2Iteration { s with initState := .v2Init, seq := { s.seq with iter := 0 } }

/-- The voltage negotiation has ended with `unit` (R216, R218). -/
def voltageReached (unit : AddressUnit) (s : State) : State :=
  goto .voltageOk { s with geom := { s.geom with addressUnit := unit }, initState := .voltageOk }

/-- The end of the Sleep after an unsuccessful iteration (R216, R217): the next iteration, or Fail when the loop budget
has run out. -/
def nextIteration (s : State) : State :=
  if s.seq.iter + 1 < s.cfg.acmd41Budget.toNat then
    let s := { s with seq := { s.seq with iter := s.seq.iter + 1 } }
    if s.seq.form = .acmd41V1 then v1Iteration s else v2Iteration s
  else initFail s

/-! ### Transfers -/

/-- R276: the progress event after block `m`. -/
def progress (m : Nat) (s : State) : State :=
  if m % s.cfg.progressInterval.toNat = 0 then { s with op := { s.op with progIp := true } } else s

/-- `blocks_done <- blocks_done + 1` (R272 to R275; log 16). -/
def countBlock (s : State) : State :=
  { s with op := { s.op with blocksDone := s.op.blocksDone + 1 } }

/-- A block of READ is in the buffer (R272, R273). -/
def readBlockDone (s : State) : State :=
  if s.seq.form = .cmd17 then finishWith .ok (countBlock s)
  else
    let s := countBlock s
    let s := progress s.op.blocksDone.toNat s
    if s.op.blocksDone.toNat < blockCount s then goto .recvAssert s else startCommand .cmd12 0 s

/-- The CSD is read (R234): parse it, and send CMD16 in state BlockLenSet (R236). -/
def csdDone (s : State) : State :=
  startCommand .cmd16 Config.cmd16Arg { parseGeometry s with initState := .blockLenSet }

/-- RecvDataBlock returns Ok (R262) to CsdRead or to READ. -/
def recvDone (s : State) : State := if s.seq.form = .cmd9 then csdDone s else readBlockDone s

/-- RecvDataBlock returns TokenTimeout (R262): Fail in CsdRead (R234), DataTokenError in READ (R272, R273). -/
def recvTimeout (s : State) : State := if s.seq.form = .cmd9 then initFail s else raise .dataTokenError s

/-- How many bytes RecvDataBlock streams: 16 for the CSD, else a sector (R262). -/
def recvLength (s : State) : Nat := if s.seq.form = .cmd9 then Config.csdSize else Config.blockSize

/-- SendDataBlock or SendStopToken comes next with token `t` (R264, R267). -/
def startSend (t : Byte) (s : State) : State :=
  { s with seq := { s.seq with pos := .txAssert, tok := t } }

/-- A chunk of a multi-block write is done (R275): count it, then the next chunk or the stop token. -/
def chunkDone (s : State) : State :=
  let s := countBlock s
  let s := progress s.op.blocksDone.toNat s
  if s.op.blocksDone.toNat < blockCount s then startSend 0xFC s else startSend 0xFD s

/-- SendDataBlock returns Accepted (R274, R275): the single write counts its block and waits while busy; a chunk waits only
with MULTI_WRITE_BLOCK_BUSY. -/
def blockAccepted (s : State) : State :=
  if s.seq.form = .cmd24 then enter .busyPoll (countBlock s)
  else if s.cfg.multiWriteBlockBusy then enter .busyPoll s
  else chunkDone s

/-- BusyWait returns NotBusy (R266): after a chunk the next one, after the single block (R274) or the stop token (R267) the
release. -/
def busyDone (s : State) : State := if s.seq.tok = 0xFC then chunkDone s else goto .endRelease s

/-! ### The return of SendCommand to its caller -/

/-- The caller's reading of SendCommand's result (R125, R180 to R193): `none` is Timeout. -/
def commandReturn (r : Option Byte) (s : State) : State :=
  match s.seq.form with
  | .cmd0 => if r = some 0x01 then goto .cmd0Idle { s with initState := .cmd0Idle } else initFail s
  | .cmd8 =>
    if r = some 0x01 then enterV2Init s
    else if r = some 0x05 then enterV1Init s
    else initFail s
  | .cmd55 =>
    if s.initState = .v1Init then startCommand .acmd41V1 0 s else startCommand .acmd41V2 Config.acmd41HcsArg s
  | .acmd41V1 => if r = some 0x00 then voltageReached .byte s else goto .acmdSleep s
  | .acmd41V2 => if r = some 0x00 then startCommand .cmd58Final 0 s else goto .acmdSleep s
  | .cmd58Loop => startCommand .cmd55 0 s
  | .cmd58Final =>
    if r = some 0x00 then voltageReached (if ccsBit s.cmd.cap then .block else .byte) s else initFail s
  | .cmd9 => if r = some 0x00 then goto .recvAssert s else initFail s
  | .cmd16 => if r = some 0x00 then goto .readyClock s else initFail s
  | .cmd17 | .cmd18 =>
    if r = none then raise .busTimeout s
    else if r = some 0x00 then goto .recvAssert s
    else raise .illegalCommand s
  | .cmd12 =>
    if r = none then raise .busTimeout s
    else if r = some 0x00 then finishWith .ok s
    else raise .illegalCommand s
  | .cmd24 =>
    if r = none then raise .busTimeout s
    else if r = some 0x00 then startSend 0xFE s
    else raise .illegalCommand s
  | .cmd25 =>
    if r = none then raise .busTimeout s
    else if r = some 0x00 then startSend 0xFC s
    else raise .illegalCommand s

/-- SendCommand's last assignments and its return (R172): last_r1 keeps its value on a Timeout. -/
def endCommand (r : Option Byte) (s : State) : State :=
  commandReturn r
    { s with
      cmd := { s.cmd with
        lastIdx := formIndex s.seq.form, lastR1 := r.getD s.cmd.lastR1, lastTo := r.isNone, lastValid := true } }

/-- After R1 and its trailing bytes (R172): the release, or the return with CS asserted. -/
def afterTrailing (s : State) : State :=
  if formRelease s.seq.form then goto .cmdRelease s else endCommand (some s.seq.r1) s

/-- A valid R1 `b` has arrived (R172, R173): the trailing bytes of R174 come next. -/
def afterR1 (b : Byte) (s : State) : State :=
  let s := { s with seq := { s.seq with r1 := b } }
  if 0 < trailingCount (formTrailing s.seq.form) then enter .cmdTrail s else afterTrailing s

/-! ### Acceptance and preconditions (43_facade) -/

/-- R320: the assignments of an accepted CMD write, before Dispatch. -/
def acceptCommand (v : Word) (s : State) : State :=
  { s with
    host := { s.host with cmd := v }
    op := { s.op with
      latOp := v.extractLsb' 0 4, latIop := v.extractLsb' 8 8
      latBlk := s.host.blockNum, latAddr := s.host.bufAddr, latLen := s.host.bufLen
      done := false, err := .ok, resValid := false
      blocksDone := if v.extractLsb' 0 4 = 0x2 ∨ v.extractLsb' 0 4 = 0x3 then 0 else s.op.blocksDone
      busy := true } }

/-- A host write of `v` to CMD (R41, R320): accepted, and `body` dispatched, unless an operation runs; then ignored with
OVR set (R41, R400). That CMD[15:8] is ignored with the rest, against 93_implementation_defined U31, is the model's choice
(log 26). -/
def hostCommand (v : Word) (body : State → State) (s : State) : State :=
  if s.op.busy then { s with op := { s.op with ovr := true } } else body (acceptCommand v s)

/-- R94, R322: the length is a positive multiple of 512. -/
def lengthOk (s : State) : Bool := s.op.latLen != 0 && s.op.latLen.toNat % Config.blockSize == 0

/-- R322, R350: CheckTransfer, in its order, then `body`. -/
def checkTransfer (body : State → State) (s : State) : State :=
  if s.initState = .ready then
    if lengthOk s then body s else raiseAtOnce .protocolViolation s
  else raiseAtOnce .protocolViolation s

/-- READ after its check (R323): CMD17 for one block, CMD18 for more (R271). -/
def readStart (s : State) : State :=
  if blockCount s = 1 then startCommand .cmd17 (protocolAddress s) s else startCommand .cmd18 (protocolAddress s) s

/-- WRITE after its check (R324): CMD24 for one block, CMD25 for more (R271). -/
def writeStart (s : State) : State :=
  if blockCount s = 1 then startCommand .cmd24 (protocolAddress s) s else startCommand .cmd25 (protocolAddress s) s

/-- An IOCTL's answer (R326 to R328): RESULT and RES_VALID, then completion. -/
def ioctlAnswer (v : Word) (s : State) : State :=
  complete .ok { s with op := { s.op with result := v, resValid := true } }

/-- R326, R328: an IOCTL that needs Ready. -/
def ioctlWhenReady (answer : State → Word) (s : State) : State :=
  if s.initState = .ready then ioctlAnswer (answer s) s else raiseAtOnce .protocolViolation s

end Sys2Proof.Machine
end

