-- ==== Sys2Proof/Machine/Commands.lean ====
section
/-! DEFINITION. The command frames (30_encoding R142, 40_command_engine R180 to R193). A frame's meaning is the call of
SendCommand for its form: FRAME and the first primitive, CsAssert. The call's other primitives follow one a step
(Machine/Framer.lean), with the form's operands of Machine/Operands.lean, and `commandReturn` is what its caller does with
the result (R11, R31; log 1, log 15). -/

namespace Sys2Proof.Machine

/-- CMD0, GO_IDLE_STATE (R180). -/
def execCmd0 (s : State) : Host.Outcome State Fault Refusal := .next (beginCommand .cmd0 0 Config.cmd0Crc s)

/-- CMD8, SEND_IF_COND (R181). -/
def execCmd8 (s : State) : Host.Outcome State Fault Refusal := .next (beginCommand .cmd8 Config.cmd8Arg Config.cmd8Crc s)

/-- APP_CMD (R182). -/
def execCmd55 (crc : Byte) (s : State) : Host.Outcome State Fault Refusal := .next (beginCommand .cmd55 0 crc s)

/-- SD_SEND_OP_COND, v1 form (R183). -/
def execAcmd41V1 (crc : Byte) (s : State) : Host.Outcome State Fault Refusal := .next (beginCommand .acmd41V1 0 crc s)

/-- SD_SEND_OP_COND, v2 form (R184). -/
def execAcmd41V2 (crc : Byte) (s : State) : Host.Outcome State Fault Refusal := .next (beginCommand .acmd41V2 Config.acmd41HcsArg crc s)

/-- READ_OCR in the V2 loop (R185). -/
def execCmd58Loop (crc : Byte) (s : State) : Host.Outcome State Fault Refusal := .next (beginCommand .cmd58Loop 0 crc s)

/-- READ_OCR after the V2 loop (R186). -/
def execCmd58Final (crc : Byte) (s : State) : Host.Outcome State Fault Refusal := .next (beginCommand .cmd58Final 0 crc s)

/-- SEND_CSD (R187). -/
def execCmd9 (crc : Byte) (s : State) : Host.Outcome State Fault Refusal := .next (beginCommand .cmd9 0 crc s)

/-- SET_BLOCKLEN (R188). -/
def execCmd16 (crc : Byte) (s : State) : Host.Outcome State Fault Refusal := .next (beginCommand .cmd16 Config.cmd16Arg crc s)

/-- READ_SINGLE_BLOCK (R189) at protocol address `paddr`. -/
def execCmd17 (paddr : Word) (crc : Byte) (s : State) : Host.Outcome State Fault Refusal :=
  .next (beginCommand .cmd17 paddr crc s)

/-- READ_MULTIPLE_BLOCK (R190) at protocol address `paddr`. -/
def execCmd18 (paddr : Word) (crc : Byte) (s : State) : Host.Outcome State Fault Refusal :=
  .next (beginCommand .cmd18 paddr crc s)

/-- STOP_TRANSMISSION (R191). -/
def execCmd12 (crc : Byte) (s : State) : Host.Outcome State Fault Refusal := .next (beginCommand .cmd12 0 crc s)

/-- WRITE_BLOCK (R192) at protocol address `paddr`. -/
def execCmd24 (paddr : Word) (crc : Byte) (s : State) : Host.Outcome State Fault Refusal :=
  .next (beginCommand .cmd24 paddr crc s)

/-- WRITE_MULTIPLE_BLOCK (R193) at protocol address `paddr`. -/
def execCmd25 (paddr : Word) (crc : Byte) (s : State) : Host.Outcome State Fault Refusal :=
  .next (beginCommand .cmd25 paddr crc s)

end Sys2Proof.Machine
end

