-- ==== Sys2Proof/WellFormed.lean ====
section
/-! DEFINITION. Which terms of `Instr` stand for a word of their row. The operand types carry the widths; two rows
also exclude values, since the table's rows above take precedence (R329, R264). -/

namespace Sys2Proof

/-- R329: IOCTL_OTHER stands for IOCTL_OP values other than 4, 5 and 6. -/
def ioctlOpIsOther (iop : BitVec 8) : Bool := iop != 4 && iop != 5 && iop != 6

/-- R130: a rejection is a data response whose low 5 bits are not 0b00101. -/
def responseIsRejection (d : Byte) : Bool := d &&& 0x1F != 0x05

/-- The well-formed instructions. -/
def WellFormed : Instr → Bool
  | .ioctlOther _ iop _ => ioctlOpIsOther iop
  | .dataRejected d => responseIsRejection d
  | .init _ | .read _ | .write _ | .ioctlSectorCount _ _ | .ioctlSectorSize _ _ | .ioctlCardType _ _
  | .reserved0 _ | .reserved5 _ | .reserved6 _ | .reserved7 _ | .reserved8 _ | .reserved9 _ | .reservedA _
  | .reservedB _ | .reservedC _ | .reservedD _ | .reservedE _ | .reservedF _
  | .cmd0 | .cmd8 | .cmd55 _ | .acmd41V1 _ | .acmd41V2 _ | .cmd58Loop _ | .cmd58Final _ | .cmd9 _ | .cmd16 _
  | .cmd17 _ _ | .cmd18 _ _ | .cmd12 _ | .cmd24 _ _ | .cmd25 _ _
  | .r1Valid _ | .tokenStartRx | .tokenStartTx | .tokenMultiWrite | .tokenStopTran | .dataAccepted _ | .busy => true

end Sys2Proof
end

