-- ==== Sys2Proof/Decode.lean ====
section
/-! DEFINITION. Decoding and encoding (spec 30_encoding, opcode_table.json). The block reads bits on seven channels, and
what a word means depends on the channel it stands on: 0xFE is one row on MISO and another on MOSI, and CMD58's frame
is two rows. Every decoder is total; what is no instruction on its channel is rejected by name. -/

namespace Sys2Proof

/-- Bits in one of the three sizes the table has: a host command word (R140), a command frame (R120), one byte. -/
inductive Code where
  | host  (w : Word)
  | frame (f : FrameWord)
  | byte  (b : Byte)
  deriving DecidableEq, Repr

/-- Where bits stand, that is, which decoder of the block reads them. -/
inductive Channel where
  /-- A host write to CMD (R140). -/
  | hostCmd
  /-- The frame built for SendCommand (R142). `final` tells the CMD58 after the V2 loop from the one inside it. -/
  | frameOut (final : Bool)
  /-- MISO in the R1 poll (R173). -/
  | r1Poll
  /-- MISO in WaitToken (R261). -/
  | tokenPoll
  /-- The token operand about to go out on MOSI (R264, R267). -/
  | tokenOut
  /-- MISO in the data-response exchange (R264). -/
  | dataResponse
  /-- MISO in BusyWait (R266). -/
  | busyPoll
  deriving DecidableEq, Repr

/-- Why bits are no instruction on their channel. -/
inductive Reject where
  /-- The bits are not of the channel's size. -/
  | wrongSize
  /-- Not one of the 14 frame forms (R141, R142). -/
  | frameNotEmitted
  /-- A byte with bit 7 = 1 is no response (R122, R173). -/
  | noResponse
  /-- A received byte other than 0xFE is "not yet" (R261). -/
  | notStartToken
  /-- No token the block sends (R128). -/
  | tokenNotSent
  /-- A byte other than 0x00 means ready (R131). -/
  | notBusy
  deriving DecidableEq, Repr

/-- R140, R141: every 32-bit word is a host operation: OP = [3:0] and, for OP = 4, IOCTL_OP = [15:8]. -/
def decodeHost (w : Word) : Instr :=
  let op   := w.extractLsb' 0 4
  let rest := w.extractLsb' 4 28
  let mid  := w.extractLsb' 4 4
  let iop  := w.extractLsb' 8 8
  let hi   := w.extractLsb' 16 16
  if op = 0x1 then .init rest
  else if op = 0x2 then .read rest
  else if op = 0x3 then .write rest
  else if op = 0x4 then
    if iop = 4 then .ioctlSectorCount hi mid
    else if iop = 5 then .ioctlSectorSize hi mid
    else if iop = 6 then .ioctlCardType hi mid
    else .ioctlOther hi iop mid
  else if op = 0x0 then .reserved0 rest
  else if op = 0x5 then .reserved5 rest
  else if op = 0x6 then .reserved6 rest
  else if op = 0x7 then .reserved7 rest
  else if op = 0x8 then .reserved8 rest
  else if op = 0x9 then .reserved9 rest
  else if op = 0xA then .reservedA rest
  else if op = 0xB then .reservedB rest
  else if op = 0xC then .reservedC rest
  else if op = 0xD then .reservedD rest
  else if op = 0xE then .reservedE rest
  else .reservedF rest

/-- R142: the 14 frame forms. Frame byte 0 is F[47:40], the argument F[39:8], the CRC byte F[7:0] (R120). -/
def decodeFrame (final : Bool) (f : FrameWord) : Except Reject Instr :=
  let first := f.extractLsb' 40 8
  let arg   := f.extractLsb' 8 32
  let crc   := f.extractLsb' 0 8
  if first = 0x40 ∧ arg = 0 ∧ crc = 0x95 then .ok .cmd0
  else if first = 0x48 ∧ arg = 0x1AA ∧ crc = 0x87 then .ok .cmd8
  else if first = 0x77 ∧ arg = 0 then .ok (.cmd55 crc)
  else if first = 0x69 ∧ arg = 0 then .ok (.acmd41V1 crc)
  else if first = 0x69 ∧ arg = 0x40000000 then .ok (.acmd41V2 crc)
  else if first = 0x7A ∧ arg = 0 then .ok (if final then .cmd58Final crc else .cmd58Loop crc)
  else if first = 0x49 ∧ arg = 0 then .ok (.cmd9 crc)
  else if first = 0x50 ∧ arg = 0x200 then .ok (.cmd16 crc)
  else if first = 0x51 then .ok (.cmd17 arg crc)
  else if first = 0x52 then .ok (.cmd18 arg crc)
  else if first = 0x4C ∧ arg = 0 then .ok (.cmd12 crc)
  else if first = 0x58 then .ok (.cmd24 arg crc)
  else if first = 0x59 then .ok (.cmd25 arg crc)
  else .error .frameNotEmitted

/-- R122, R173: a byte with bit 7 = 0 is R1, whatever its other bits. -/
def decodeR1 (b : Byte) : Except Reject Instr :=
  if b.extractLsb' 7 1 = 0 then .ok (.r1Valid (b.extractLsb' 0 7)) else .error .noResponse

/-- R128, R261: 0xFE on all 8 bits. -/
def decodeRxToken (b : Byte) : Except Reject Instr :=
  if b = 0xFE then .ok .tokenStartRx else .error .notStartToken

/-- R128: the three tokens the block sends. -/
def decodeTxToken (b : Byte) : Except Reject Instr :=
  if b = 0xFE then .ok .tokenStartTx
  else if b = 0xFC then .ok .tokenMultiWrite
  else if b = 0xFD then .ok .tokenStopTran
  else .error .tokenNotSent

/-- R130: accepted iff the low 5 bits are 0b00101. Every byte is a data response. -/
def decodeResponse (d : Byte) : Instr :=
  if d.extractLsb' 0 5 = 0b00101 then .dataAccepted (d.extractLsb' 5 3) else .dataRejected d

/-- R131, R266: 0x00 is busy. -/
def decodeBusy (b : Byte) : Except Reject Instr :=
  if b = 0x00 then .ok .busy else .error .notBusy

/-- The decoder of the block: total on any bits on any channel. -/
def decode : Channel → Code → Except Reject Instr
  | .hostCmd, .host w => .ok (decodeHost w)
  | .frameOut final, .frame f => decodeFrame final f
  | .r1Poll, .byte b => decodeR1 b
  | .tokenPoll, .byte b => decodeRxToken b
  | .tokenOut, .byte b => decodeTxToken b
  | .dataResponse, .byte d => .ok (decodeResponse d)
  | .busyPoll, .byte b => decodeBusy b
  | _, _ => .error .wrongSize

/-- The channel an instruction stands on. -/
def channelOf : Instr → Channel
  | .init _ | .read _ | .write _ | .ioctlSectorCount _ _ | .ioctlSectorSize _ _ | .ioctlCardType _ _
  | .ioctlOther _ _ _ | .reserved0 _ | .reserved5 _ | .reserved6 _ | .reserved7 _ | .reserved8 _ | .reserved9 _
  | .reservedA _ | .reservedB _ | .reservedC _ | .reservedD _ | .reservedE _ | .reservedF _ => .hostCmd
  | .cmd58Final _ => .frameOut true
  | .cmd0 | .cmd8 | .cmd55 _ | .acmd41V1 _ | .acmd41V2 _ | .cmd58Loop _ | .cmd9 _ | .cmd16 _ | .cmd17 _ _
  | .cmd18 _ _ | .cmd12 _ | .cmd24 _ _ | .cmd25 _ _ => .frameOut false
  | .r1Valid _ => .r1Poll
  | .tokenStartRx => .tokenPoll
  | .tokenStartTx | .tokenMultiWrite | .tokenStopTran => .tokenOut
  | .dataAccepted _ | .dataRejected _ => .dataResponse
  | .busy => .busyPoll

/-- A command word with OP `op` and CMD[31:4] `rest` (R140). -/
def hostWord (rest : BitVec 28) (op : BitVec 4) : Word := rest ++ op

/-- A command word of OP 4 (R140). -/
def ioctlWord (hi : BitVec 16) (iop : BitVec 8) (mid : BitVec 4) : Word := hi ++ iop ++ mid ++ (4 : BitVec 4)

/-- R120: frame byte 0 first, then the argument big-endian, then the CRC+stop byte. -/
def frameWord (first : Byte) (arg : Word) (crc : Byte) : FrameWord := first ++ arg ++ crc

/-- The encoder, from the tables of R140, R142, R128 and R130. -/
def encode : Instr → Code
  | .init rest => .host (hostWord rest 0x1)
  | .read rest => .host (hostWord rest 0x2)
  | .write rest => .host (hostWord rest 0x3)
  | .ioctlSectorCount hi mid => .host (ioctlWord hi 4 mid)
  | .ioctlSectorSize hi mid => .host (ioctlWord hi 5 mid)
  | .ioctlCardType hi mid => .host (ioctlWord hi 6 mid)
  | .ioctlOther hi iop mid => .host (ioctlWord hi iop mid)
  | .reserved0 rest => .host (hostWord rest 0x0)
  | .reserved5 rest => .host (hostWord rest 0x5)
  | .reserved6 rest => .host (hostWord rest 0x6)
  | .reserved7 rest => .host (hostWord rest 0x7)
  | .reserved8 rest => .host (hostWord rest 0x8)
  | .reserved9 rest => .host (hostWord rest 0x9)
  | .reservedA rest => .host (hostWord rest 0xA)
  | .reservedB rest => .host (hostWord rest 0xB)
  | .reservedC rest => .host (hostWord rest 0xC)
  | .reservedD rest => .host (hostWord rest 0xD)
  | .reservedE rest => .host (hostWord rest 0xE)
  | .reservedF rest => .host (hostWord rest 0xF)
  | .cmd0 => .frame (frameWord 0x40 0 0x95)
  | .cmd8 => .frame (frameWord 0x48 0x1AA 0x87)
  | .cmd55 crc => .frame (frameWord 0x77 0 crc)
  | .acmd41V1 crc => .frame (frameWord 0x69 0 crc)
  | .acmd41V2 crc => .frame (frameWord 0x69 0x40000000 crc)
  | .cmd58Loop crc => .frame (frameWord 0x7A 0 crc)
  | .cmd58Final crc => .frame (frameWord 0x7A 0 crc)
  | .cmd9 crc => .frame (frameWord 0x49 0 crc)
  | .cmd16 crc => .frame (frameWord 0x50 0x200 crc)
  | .cmd17 paddr crc => .frame (frameWord 0x51 paddr crc)
  | .cmd18 paddr crc => .frame (frameWord 0x52 paddr crc)
  | .cmd12 crc => .frame (frameWord 0x4C 0 crc)
  | .cmd24 paddr crc => .frame (frameWord 0x58 paddr crc)
  | .cmd25 paddr crc => .frame (frameWord 0x59 paddr crc)
  | .r1Valid low => .byte ((0 : BitVec 1) ++ low)
  | .tokenStartRx => .byte 0xFE
  | .tokenStartTx => .byte 0xFE
  | .tokenMultiWrite => .byte 0xFC
  | .tokenStopTran => .byte 0xFD
  | .dataAccepted hi => .byte (hi ++ (0b00101 : BitVec 5))
  | .dataRejected d => .byte d
  | .busy => .byte 0x00

/-- A byte with no channel given, as the table's one-byte rows read it, the row with the most fixed bits first
(log 13): the tokens, then an accepted data response, then R1, then a rejected data response. -/
def decodeByteRow (b : Byte) : Instr :=
  match decodeRxToken b, decodeTxToken b, decodeResponse b, decodeR1 b with
  | .ok i, _, _, _ => i
  | _, .ok i, _, _ => i
  | _, _, .dataAccepted hi, _ => .dataAccepted hi
  | _, _, _, .ok i => i
  | _, _, i, _ => i

/-- The instruction the decoder reads from a word numbered as the table numbers it (log 13). Up to 32 bits are a host
command word (a shorter one with zeros above), but a byte of 0x10 or more is a byte row; 48 bits are a frame. -/
def decodeTableWord (nbits w : Nat) : Option Instr :=
  if nbits ≤ 8 ∧ 0x10 ≤ w then
    if w < 0x100 then some (decodeByteRow (BitVec.ofNat 8 w)) else none
  else if nbits ≤ 32 then some (decodeHost (BitVec.ofNat 32 w))
  else if nbits ≤ 48 then (decodeFrame false (BitVec.ofNat 48 w)).toOption
  else none

end Sys2Proof
end

