-- ==== Sys2Proof/Machine/HostOps.lean ====
section
/-! DEFINITION. The host operations (43_facade): each meaning is a host write of its command word to CMD (R41, R320), with
the operation dispatched in the same step as far as its first primitive, or to its completion if it has none (log 1). -/

namespace Sys2Proof.Machine

/-- INIT (R330, R210): InitStart follows acceptance; it has no precondition. -/
def execInit (rest : BitVec 28) (s : State) : Host.Outcome State Fault Refusal :=
  .next (hostCommand (hostWord rest 0x1) initStart s)

/-- READ (R323). -/
def execRead (rest : BitVec 28) (s : State) : Host.Outcome State Fault Refusal :=
  .next (hostCommand (hostWord rest 0x2) (checkTransfer readStart) s)

/-- WRITE (R324). -/
def execWrite (rest : BitVec 28) (s : State) : Host.Outcome State Fault Refusal :=
  .next (hostCommand (hostWord rest 0x3) (checkTransfer writeStart) s)

/-- IOCTL 4 (R326): the sector count. -/
def execIoctlSectorCount (hi : BitVec 16) (mid : BitVec 4) (s : State) : Host.Outcome State Fault Refusal :=
  .next (hostCommand (ioctlWord hi 4 mid) (ioctlWhenReady fun s => s.geom.sectorCount) s)

/-- IOCTL 5 (R327): 512, in every init state. -/
def execIoctlSectorSize (hi : BitVec 16) (mid : BitVec 4) (s : State) : Host.Outcome State Fault Refusal :=
  .next (hostCommand (ioctlWord hi 5 mid) (ioctlAnswer 0x00000200) s)

/-- IOCTL 6 (R328): the card type tag. -/
def execIoctlCardType (hi : BitVec 16) (mid : BitVec 4) (s : State) : Host.Outcome State Fault Refusal :=
  .next (hostCommand (ioctlWord hi 6 mid) (ioctlWhenReady fun s => (cardTypeBit s.geom.cardType).setWidth 32) s)

/-- IOCTL with any other code (R329): ProtocolViolation at once. -/
def execIoctlOther (hi : BitVec 16) (iop : BitVec 8) (mid : BitVec 4) (s : State) : Host.Outcome State Fault Refusal :=
  .next (hostCommand (ioctlWord hi iop mid) (raiseAtOnce .protocolViolation) s)

/-- R331: a reserved OP value `op` completes at once with ProtocolViolation. -/
def reservedCommand (rest : BitVec 28) (op : BitVec 4) (s : State) : Host.Outcome State Fault Refusal :=
  .next (hostCommand (hostWord rest op) (raiseAtOnce .protocolViolation) s)

/-- Reserved OP 0x0 (R331). -/
def execReserved0 (rest : BitVec 28) (s : State) : Host.Outcome State Fault Refusal := reservedCommand rest 0x0 s

/-- Reserved OP 0x5 (R331). -/
def execReserved5 (rest : BitVec 28) (s : State) : Host.Outcome State Fault Refusal := reservedCommand rest 0x5 s

/-- Reserved OP 0x6 (R331). -/
def execReserved6 (rest : BitVec 28) (s : State) : Host.Outcome State Fault Refusal := reservedCommand rest 0x6 s

/-- Reserved OP 0x7 (R331). -/
def execReserved7 (rest : BitVec 28) (s : State) : Host.Outcome State Fault Refusal := reservedCommand rest 0x7 s

/-- Reserved OP 0x8 (R331). -/
def execReserved8 (rest : BitVec 28) (s : State) : Host.Outcome State Fault Refusal := reservedCommand rest 0x8 s

/-- Reserved OP 0x9 (R331). -/
def execReserved9 (rest : BitVec 28) (s : State) : Host.Outcome State Fault Refusal := reservedCommand rest 0x9 s

/-- Reserved OP 0xA (R331). -/
def execReservedA (rest : BitVec 28) (s : State) : Host.Outcome State Fault Refusal := reservedCommand rest 0xA s

/-- Reserved OP 0xB (R331). -/
def execReservedB (rest : BitVec 28) (s : State) : Host.Outcome State Fault Refusal := reservedCommand rest 0xB s

/-- Reserved OP 0xC (R331). -/
def execReservedC (rest : BitVec 28) (s : State) : Host.Outcome State Fault Refusal := reservedCommand rest 0xC s

/-- Reserved OP 0xD (R331). -/
def execReservedD (rest : BitVec 28) (s : State) : Host.Outcome State Fault Refusal := reservedCommand rest 0xD s

/-- Reserved OP 0xE (R331). -/
def execReservedE (rest : BitVec 28) (s : State) : Host.Outcome State Fault Refusal := reservedCommand rest 0xE s

/-- Reserved OP 0xF (R331). -/
def execReservedF (rest : BitVec 28) (s : State) : Host.Outcome State Fault Refusal := reservedCommand rest 0xF s

end Sys2Proof.Machine
end

