-- ==== Sys2Proof/Machine/Tokens.lean ====
section
/-! DEFINITION. The bytes that steer an operation: R1, tokens, data responses, busy (30_encoding R122, R128, R130, R131).
Each meaning is one exchange, in which the block receives or sends the byte, and what the operation does next. -/

namespace Sys2Proof.Machine

/-- A valid R1 in the R1 poll (R122, R173): the poll ends with this byte, whatever its bits [6:0]. -/
def execR1Valid (low : BitVec 7) (s : State) : Host.Outcome State Fault Refusal :=
  .next (afterR1 ((0 : BitVec 1) ++ low) (exchange 0xFF ((0 : BitVec 1) ++ low) s))

/-- 0xFE in WaitToken (R261): Found; the data bytes come next (R262). -/
def execTokenStartRx (s : State) : Host.Outcome State Fault Refusal := .next (enter .recvData (exchange 0xFF 0xFE s))

/-- The token 0xFE of a single-block write goes out (R264); the data bytes come next. -/
def execTokenStartTx (s : State) : Host.Outcome State Fault Refusal := .next (enter .sendFetch (xfer 0xFE s))

/-- The token 0xFC of a chunk goes out (R264, R275); the data bytes come next. -/
def execTokenMultiWrite (s : State) : Host.Outcome State Fault Refusal := .next (enter .sendFetch (xfer 0xFC s))

/-- The stop-transfer token 0xFD goes out (R267); one filler byte comes next. -/
def execTokenStopTran (s : State) : Host.Outcome State Fault Refusal := .next (goto .stopFiller (xfer 0xFD s))

/-- An accepted data response (R130, R264), whatever its bits [7:5]. -/
def execDataAccepted (hi : BitVec 3) (s : State) : Host.Outcome State Fault Refusal :=
  .next (blockAccepted (exchange 0xFF (hi ++ (0b00101 : BitVec 5)) s))

/-- A rejected data response (R130, R264): DataTokenError (R274, R275). -/
def execDataRejected (d : Byte) (s : State) : Host.Outcome State Fault Refusal :=
  .next (raise .dataTokenError (exchange 0xFF d s))

/-- 0x00 in BusyWait (R131, R266): still busy; the Sleep comes next. -/
def execBusy (s : State) : Host.Outcome State Fault Refusal := .next (goto .busySleep (exchange 0xFF 0x00 s))

end Sys2Proof.Machine
end

