-- ==== Sys2Proof/Machine/Dispatch.lean ====
section
/-! DEFINITION. The dispatch: one arm per constructor of Instr, each one call of its meaning. -/

namespace Sys2Proof.Machine

def exec (i : Instr) (s : State) : Host.Outcome State Fault Refusal :=
  match i with
  | .init rest => Sys2Proof.Machine.execInit rest s
  | .read rest => Sys2Proof.Machine.execRead rest s
  | .write rest => Sys2Proof.Machine.execWrite rest s
  | .ioctlSectorCount hi mid => Sys2Proof.Machine.execIoctlSectorCount hi mid s
  | .ioctlSectorSize hi mid => Sys2Proof.Machine.execIoctlSectorSize hi mid s
  | .ioctlCardType hi mid => Sys2Proof.Machine.execIoctlCardType hi mid s
  | .ioctlOther hi iop mid => Sys2Proof.Machine.execIoctlOther hi iop mid s
  | .reserved0 rest => Sys2Proof.Machine.execReserved0 rest s
  | .reserved5 rest => Sys2Proof.Machine.execReserved5 rest s
  | .reserved6 rest => Sys2Proof.Machine.execReserved6 rest s
  | .reserved7 rest => Sys2Proof.Machine.execReserved7 rest s
  | .reserved8 rest => Sys2Proof.Machine.execReserved8 rest s
  | .reserved9 rest => Sys2Proof.Machine.execReserved9 rest s
  | .reservedA rest => Sys2Proof.Machine.execReservedA rest s
  | .reservedB rest => Sys2Proof.Machine.execReservedB rest s
  | .reservedC rest => Sys2Proof.Machine.execReservedC rest s
  | .reservedD rest => Sys2Proof.Machine.execReservedD rest s
  | .reservedE rest => Sys2Proof.Machine.execReservedE rest s
  | .reservedF rest => Sys2Proof.Machine.execReservedF rest s
  | .cmd0 => Sys2Proof.Machine.execCmd0 s
  | .cmd8 => Sys2Proof.Machine.execCmd8 s
  | .cmd55 crc => Sys2Proof.Machine.execCmd55 crc s
  | .acmd41V1 crc => Sys2Proof.Machine.execAcmd41V1 crc s
  | .acmd41V2 crc => Sys2Proof.Machine.execAcmd41V2 crc s
  | .cmd58Loop crc => Sys2Proof.Machine.execCmd58Loop crc s
  | .cmd58Final crc => Sys2Proof.Machine.execCmd58Final crc s
  | .cmd9 crc => Sys2Proof.Machine.execCmd9 crc s
  | .cmd16 crc => Sys2Proof.Machine.execCmd16 crc s
  | .cmd17 paddr crc => Sys2Proof.Machine.execCmd17 paddr crc s
  | .cmd18 paddr crc => Sys2Proof.Machine.execCmd18 paddr crc s
  | .cmd12 crc => Sys2Proof.Machine.execCmd12 crc s
  | .cmd24 paddr crc => Sys2Proof.Machine.execCmd24 paddr crc s
  | .cmd25 paddr crc => Sys2Proof.Machine.execCmd25 paddr crc s
  | .r1Valid low => Sys2Proof.Machine.execR1Valid low s
  | .tokenStartRx => Sys2Proof.Machine.execTokenStartRx s
  | .tokenStartTx => Sys2Proof.Machine.execTokenStartTx s
  | .tokenMultiWrite => Sys2Proof.Machine.execTokenMultiWrite s
  | .tokenStopTran => Sys2Proof.Machine.execTokenStopTran s
  | .dataAccepted hi => Sys2Proof.Machine.execDataAccepted hi s
  | .dataRejected d => Sys2Proof.Machine.execDataRejected d s
  | .busy => Sys2Proof.Machine.execBusy s

end Sys2Proof.Machine
end

