-- ==== Sys2Proof/Machine/Framer.lean ====
section
/-! DEFINITION. The framer (00_scope R11): which instruction of the table its position asks for, if any, and the
primitives that are no row of the table, one a step (10_state R31). -/

namespace Sys2Proof.Machine

/-- The instruction the framer meets at its position: a frame or token it is about to send, or the byte the card answers
where the block decides by it. `none` where the next primitive is no row of the table. -/
def fetched (s : State) : Option Instr :=
  match s.seq.pos with
  | .cmdIssue => (decodeFrame (s.seq.form = .cmd58Final) (frameAsWord s.cmd.frame)).toOption
  | .cmdPoll => (decodeR1 (nextMiso s)).toOption
  | .recvToken => (decodeRxToken (nextMiso s)).toOption
  | .txToken => (decodeTxToken s.seq.tok).toOption
  | .sendResponse => some (decodeResponse (nextMiso s))
  | .busyPoll => (decodeBusy (nextMiso s)).toOption
  | _ => none

/-! ### SendCommand's primitives (R172 to R174) -/

/-- R172: Xfer(FRAME[k]), MISO discarded; after the sixth byte the filler or the R1 poll. -/
def stepCmdFrame (s : State) : State :=
  let s' := xfer (frameByte s.cmd.frame s.seq.k) s
  if s.seq.k + 1 < 6 then again .cmdFrame s'
  else if formSkipFirst s.cfg s.seq.form then goto .cmdSkip s' else enter .cmdPoll s'

/-- R173: a poll whose byte has bit 7 = 1; the next poll, or Timeout when the budget has run out. -/
def stepCmdPollMiss (s : State) : State :=
  if s.seq.k + 1 < s.cfg.r1PollBudget.toNat then again .cmdPoll (xfer 0xFF s) else goto .cmdTimeout (xfer 0xFF s)

/-- R174: CAP[k] <- v in a Capture, nothing in a Discard. -/
def captureByte (v : Byte) (s : State) : State :=
  if trailingCaptures (formTrailing s.seq.form) then
    { s with cmd := { s.cmd with cap := s.cmd.cap.setIfInBounds s.seq.k v } }
  else s

/-- R174: trailing byte k. -/
def stepCmdTrail (s : State) : State :=
  let s' := captureByte (nextMiso s) (xfer 0xFF s)
  if s.seq.k + 1 < trailingCount (formTrailing s.seq.form) then again .cmdTrail s' else afterTrailing s'

/-! ### RecvDataBlock's primitives (R261, R262) -/

/-- R261: the Sleep after an unsuccessful token poll; the next poll, or TokenTimeout when the budget has run out. -/
def stepTokenSleep (s : State) : State :=
  let s' := sleep s.cfg.tokenPollSleepMs s
  if s.seq.k + 1 < s.cfg.tokenPollBudget.toNat then again .recvToken s' else recvTimeout s'

/-- R262: data byte k of the CSD goes to CSD[k] (R234) as it arrives; of a sector, to host memory in the next step. -/
def stepRecvData (s : State) : State :=
  if s.seq.form = .cmd9 then
    let s' := { xfer 0xFF s with csd := s.csd.setIfInBounds s.seq.k (nextMiso s) }
    if s.seq.k + 1 < recvLength s then again .recvData s' else enter .recvCrc s'
  else
    let s' := xfer 0xFF s
    { s' with seq := { s'.seq with pos := .recvStore, datum := nextMiso s } }

/-- R262: MemWrite(B(base + k), 1, v), if host memory takes it (R27). -/
def stepRecvStore (s : State) : Host.Outcome State Fault Refusal :=
  if memAdmits (blockByteAddress s) s then
    let s' := memWrite (blockByteAddress s) s.seq.datum s
    .next (if s.seq.k + 1 < recvLength s then again .recvData s' else enter .recvCrc s')
  else .fault .hostMemoryRefused

/-- R262: the two CRC bytes, discarded. -/
def stepRecvCrc (s : State) : State :=
  if s.seq.k + 1 < 2 then again .recvCrc (xfer 0xFF s) else goto .recvRelease (xfer 0xFF s)

/-! ### SendDataBlock's primitives (R264) -/

/-- R264: v <- MemRead(B(base + k), 1), if host memory takes it (R27). -/
def stepSendFetch (s : State) : Host.Outcome State Fault Refusal :=
  if memAdmits (blockByteAddress s) s then .next (goto .sendData (memRead (blockByteAddress s) s))
  else .fault .hostMemoryRefused

/-- R264: Xfer(v). -/
def stepSendData (s : State) : State :=
  let s' := xfer s.seq.datum s
  if s.seq.k + 1 < Config.blockSize then again .sendFetch s' else enter .sendCrc s'

/-- R264: the two dummy CRC bytes. -/
def stepSendCrc (s : State) : State :=
  if s.seq.k + 1 < 2 then again .sendCrc (xfer 0xFF s) else goto .sendResponse (xfer 0xFF s)

/-! ### BusyWait's Sleep (R266), the power-up bytes (R211) -/

/-- R266: the Sleep after a busy byte; the next poll, or BusyTimeout, raised as BusTimeout (R274, R275, D8). -/
def stepBusySleep (s : State) : State :=
  let s' := sleep s.cfg.busyPollSleepMs s
  if s.seq.k + 1 < s.cfg.busyPollBudget.toNat then again .busyPoll s' else raise .busTimeout s'

/-- R211: CsDeassert, then the power-up bytes, if there are any. -/
def stepInitDeassert (s : State) : State :=
  if 0 < s.cfg.powerupDummyBytes.toNat then enter .powerup (csDeassert s) else beginAttempt (csDeassert s)

/-- R211: power-up byte k. -/
def stepPowerup (s : State) : State :=
  if s.seq.k + 1 < s.cfg.powerupDummyBytes.toNat then again .powerup (xfer 0xFF s) else beginAttempt (xfer 0xFF s)

/-- R236: SetClock(DATA_BAUD). -/
def stepReadyClock (s : State) : State := goto .readyDone (setClock s.cfg.dataBaud s)

/-- R236, R210: geom_valid, Ready and INIT's complete(OK), in one step, so that READY and GEOM_VALID are 0 for the whole of INIT
(R211), which ends at DONE (R29; log 25). -/
def stepReadyDone (s : State) : State :=
  complete .ok { s with geom := { s.geom with geomValid := true }, initState := .ready }

/-- R176: Abort's trailing byte; then Fail in INIT (R220), completion otherwise (R352). -/
def stepAbortClock (s : State) : State :=
  if s.op.latOp = 0x1 then attemptFailed (xfer 0xFF s) else goto .finish (xfer 0xFF s)

/-- The framer's next primitive, where it is no row of the table (R31). -/
def primitive (s : State) : Host.Outcome State Fault Refusal :=
  match s.seq.pos with
  | .idle => .next s
  | .initClock => .next (goto .initDeassert (setClock s.cfg.initBaud s))
  | .initDeassert => .next (stepInitDeassert s)
  | .powerup => .next (stepPowerup s)
  | .cmd0Idle => .next (startCommand .cmd8 Config.cmd8Arg { s with initState := .versionProbe })
  | .voltageOk => .next (startCommand .cmd9 0 { s with initState := .csdRead })
  | .acmdSleep => .next (nextIteration (sleep s.cfg.acmd41IntervalMs s))
  | .readyClock => .next (stepReadyClock s)
  | .readyDone => .next (stepReadyDone s)
  | .cmdIssue => .refused .frameNotEmitted
  | .cmdFrame => .next (stepCmdFrame s)
  | .cmdSkip => .next (enter .cmdPoll (xfer 0xFF s))
  | .cmdPoll => .next (stepCmdPollMiss s)
  | .cmdTrail => .next (stepCmdTrail s)
  | .cmdRelease => .next (goto .cmdReleaseClock (csDeassert s))
  | .cmdReleaseClock => .next (endCommand (some s.seq.r1) (xfer 0xFF s))
  | .cmdTimeout => .next (goto .cmdTimeoutClock (csDeassert s))
  | .cmdTimeoutClock => .next (endCommand none (xfer 0xFF s))
  | .recvAssert => .next (enter .recvToken (csAssert s))
  | .recvToken => .next (goto .recvTokenSleep (xfer 0xFF s))
  | .recvTokenSleep => .next (stepTokenSleep s)
  | .recvData => .next (stepRecvData s)
  | .recvStore => stepRecvStore s
  | .recvCrc => .next (stepRecvCrc s)
  | .recvRelease => .next (goto .recvReleaseClock (csDeassert s))
  | .recvReleaseClock => .next (recvDone (xfer 0xFF s))
  | .txAssert => .next (goto .txToken (csAssert s))
  | .txToken => .refused .tokenNotSent
  | .sendFetch => stepSendFetch s
  | .sendData => .next (stepSendData s)
  | .sendCrc => .next (stepSendCrc s)
  | .sendResponse => .next (raise .dataTokenError (xfer 0xFF s))
  | .stopFiller => .next (enter .busyPoll (xfer 0xFF s))
  | .busyPoll => .next (busyDone (xfer 0xFF s))
  | .busySleep => .next (stepBusySleep s)
  | .endRelease => .next (goto .endReleaseClock (csDeassert s))
  | .endReleaseClock => .next (finishWith .ok (xfer 0xFF s))
  | .abortRelease => .next (goto .abortClock (csDeassert s))
  | .abortClock => .next (stepAbortClock s)
  | .retryDeassert => .next (goto .retryClock (csDeassert s))
  | .retryClock => .next (goto .retrySleep (xfer 0xFF s))
  | .retrySleep => .next (beginAttempt (sleep s.cfg.retrySleepMs s))
  | .finish => .next (complete s.seq.code s)

end Sys2Proof.Machine
end

