-- ==== Sys2Proof/Machine/Registers.lean ====
section
/-! DEFINITION. The host register map (10_state R40 to R58): which accesses are legal, what a read returns, what a write to
any register but CMD does. -/

namespace Sys2Proof.Machine

/-- The eighteen host registers (R40). -/
inductive Reg where
  | cmd | blockNum | bufAddr | bufLen | status | result | sectors | geom | sectorSize | lastCmd | cap
  | csd0 | csd1 | csd2 | csd3 | progress | intEn | intStat
  deriving DecidableEq, Repr

/-- R40: the offset of each register. -/
def regOffset : Reg → Nat
  | .cmd => 0x00
  | .blockNum => 0x04
  | .bufAddr => 0x08
  | .bufLen => 0x0C
  | .status => 0x10
  | .result => 0x14
  | .sectors => 0x18
  | .geom => 0x1C
  | .sectorSize => 0x20
  | .lastCmd => 0x24
  | .cap => 0x28
  | .csd0 => 0x2C
  | .csd1 => 0x30
  | .csd2 => 0x34
  | .csd3 => 0x38
  | .progress => 0x3C
  | .intEn => 0x40
  | .intStat => 0x44

/-- R40: the register at an offset, if there is one. -/
def regAt (offset : Nat) : Option Reg :=
  [Reg.cmd, .blockNum, .bufAddr, .bufLen, .status, .result, .sectors, .geom, .sectorSize, .lastCmd, .cap,
    .csd0, .csd1, .csd2, .csd3, .progress, .intEn, .intStat].find? fun r => regOffset r == offset

/-- R40: the register a host access reaches: 32-bit and word-aligned, at the offsets of the map only. -/
def accessedReg (bytes offset : Nat) : Option Reg := if bytes = 4 then regAt offset else none

/-- What a host read of a register returns (R41 to R58). It has no side effect (R96). -/
def readReg (r : Reg) (s : State) : Word :=
  match r with
  | .cmd => s.host.cmd
  | .blockNum => s.host.blockNum
  | .bufAddr => s.host.bufAddr
  | .bufLen => s.host.bufLen
  | .status => statusWord s
  | .result => s.op.result
  | .sectors => s.geom.sectorCount
  | .geom => geomWord s
  | .sectorSize => 0x00000200
  | .lastCmd => lastCmdWord s
  | .cap => capWord s
  | .csd0 => csdWord 0 s
  | .csd1 => csdWord 1 s
  | .csd2 => csdWord 2 s
  | .csd3 => csdWord 3 s
  | .progress => s.op.blocksDone
  | .intEn => intEnWord s
  | .intStat => intStatWord s

/-- R50: a write to STATUS clears DONE by bit 1 and OVR by bit 7, and ignores the rest. -/
def writeStatus (v : Word) (s : State) : State :=
  { s with op := { s.op with done := s.op.done && !v.getLsbD 1, ovr := s.op.ovr && !v.getLsbD 7 } }

/-- R58: a write to INT_EN stores DONE_IE (bit 0) and PROG_IE (bit 1). -/
def writeIntEn (v : Word) (s : State) : State :=
  { s with op := { s.op with doneIe := v.getLsbD 0, progIe := v.getLsbD 1 } }

/-- R58: a write to INT_STAT clears DONE_IP by bit 0 and PROG_IP by bit 1. -/
def writeIntStat (v : Word) (s : State) : State :=
  { s with op := { s.op with done := s.op.done && !v.getLsbD 0, progIp := s.op.progIp && !v.getLsbD 1 } }

/-- A host write to a register other than CMD (R42 to R58); CMD's is an instruction (R41, R320). A write to a read-only
register has no effect (R40). -/
def writeReg (r : Reg) (v : Word) (s : State) : State :=
  match r with
  | .blockNum => { s with host := { s.host with blockNum := v } }
  | .bufAddr => { s with host := { s.host with bufAddr := v } }
  | .bufLen => { s with host := { s.host with bufLen := v } }
  | .status => writeStatus v s
  | .intEn => writeIntEn v s
  | .intStat => writeIntStat v s
  | .cmd | .result | .sectors | .geom | .sectorSize | .lastCmd | .cap | .csd0 | .csd1 | .csd2 | .csd3 | .progress => s

end Sys2Proof.Machine
end

