-- ==== Sys2Proof/Machine/Turn.lean ====
section
/-! DEFINITION. Whose turn it is, and one turn (00_scope R11): the host's next action, or one step of the framer. Reset
(70_reset_and_hazards R390, R391). How a word of the opcode table is put where the next step meets it. -/

namespace Sys2Proof.Machine

/-- One step of the framer: the instruction at its position, or its next primitive (R31). -/
def framerTurn (s : State) : Host.Outcome State Fault Refusal :=
  match fetched s with
  | some i => exec i s
  | none => primitive s

/-- R390, R391: every register of the block at its reset value, TRACE empty, no event; what is outside the block stays
(log 19). -/
def applyReset (s : State) : State := { State.reset with cfg := s.cfg, mem := s.mem, env := s.env }

/-- A host register write (R40): to CMD, the instruction of the word (R140); elsewhere a plain write; else refused. -/
def hostWrite (bytes offset : Nat) (v : Word) (s : State) : Host.Outcome State Fault Refusal :=
  match accessedReg bytes offset with
  | some .cmd => exec (decodeHost v) s
  | some r => .next (writeReg r v s)
  | none => .refused (.hostAccess bytes offset)

/-- A host register write that falls in the same step as a framer step: the write first, so that a completion wins over a
clear (R50, R362; log 12). An idle block has no step of its own. -/
def hostWriteWith (bytes offset : Nat) (v : Word) (s : State) : Host.Outcome State Fault Refusal :=
  match hostWrite bytes offset v s with
  | .next s' => if s.op.busy then framerTurn s' else .next s'
  | .fault f => .fault f
  | .refused r => .refused r

/-- A host register read (R40, R96). -/
def hostRead (bytes offset : Nat) (s : State) : Host.Outcome State Fault Refusal :=
  match accessedReg bytes offset with
  | some r => .next { s with env := { s.env with rdata := readReg r s } }
  | none => .refused (.hostAccess bytes offset)

/-- The state with the host's first action taken from its list. -/
def popHost (s : State) : State := { s with env := { s.env with host := s.env.host.tail } }

/-- One host action `a`, already taken from the list. -/
def hostTurn (a : HostAction) (s : State) : Host.Outcome State Fault Refusal :=
  match a with
  | .tick => framerTurn s
  | .write bytes offset v => hostWrite bytes offset v s
  | .writeWith bytes offset v => hostWriteWith bytes offset v s
  | .read bytes offset => hostRead bytes offset s
  | .waitDone => .next s
  | .reset => .next (applyReset s)
  | .memWrite addr v => .next { s with mem := memoryWrite s.mem addr.toNat v }
  | .memRead addr => .next { s with env := { s.env with rdata := (memByte addr s).setWidth 32 } }

/-- One turn: a waiting host leaves the framer the turn until DONE = 1 (R144); with no host action the framer moves
(R11, R31; log 2). -/
def turn (s : State) : Host.Outcome State Fault Refusal :=
  match s.env.host with
  | [] => framerTurn s
  | .waitDone :: _ => if s.op.done then hostTurn .waitDone (popHost s) else framerTurn s
  | a :: _ => hostTurn a (popHost s)

/-! ### Host programs (R144) -/

/-- `clr`: clear DONE and OVR. -/
def asmClr : List HostAction := [.write 4 0x10 0x82]

/-- `INIT`. -/
def asmInit : List HostAction := [.write 4 0x00 0x1, .waitDone]

/-- `READ b, a, len`. -/
def asmRead (b a len : Word) : List HostAction :=
  [.write 4 0x04 b, .write 4 0x08 a, .write 4 0x0C len, .write 4 0x00 0x2, .waitDone]

/-- `WRITE b, a, len`. -/
def asmWrite (b a len : Word) : List HostAction :=
  [.write 4 0x04 b, .write 4 0x08 a, .write 4 0x0C len, .write 4 0x00 0x3, .waitDone]

/-- `IOCTL k`. -/
def asmIoctl (k : Byte) : List HostAction :=
  [.write 4 0x00 (0x4 ||| (k.setWidth 32 <<< 8)), .waitDone, .read 4 0x14]

/-! ### Placing a word (log 14) -/

/-- The host does `a` next. -/
def placeAction (a : HostAction) (s : State) : State := { s with env := { s.env with host := a :: s.env.host } }

/-- The framer has the next turn, at position `p`. -/
def placeAt (p : Pos) (s : State) : State := placeAction .tick (goto p s)

/-- The card answers `b` next. -/
def placeMiso (b : Byte) (s : State) : State := { s with env := { s.env with miso := b :: s.env.miso } }

/-- The state in which the next step meets instruction `i`. -/
def placeInstr (i : Instr) (s : State) : State :=
  match channelOf i, encode i with
  | .hostCmd, .host w => placeAction (.write 4 0x00 w) s
  | .frameOut final, .frame f =>
    placeAt .cmdIssue
      { s with
        cmd := { s.cmd with frame := frameOfWord f }
        seq := { s.seq with form := if final then .cmd58Final else .cmd58Loop } }
  | .r1Poll, .byte b => placeAt .cmdPoll (placeMiso b s)
  | .tokenPoll, .byte b => placeAt .recvToken (placeMiso b s)
  | .tokenOut, .byte b => placeAt .txToken { s with seq := { s.seq with tok := b } }
  | .dataResponse, .byte b => placeAt .sendResponse (placeMiso b s)
  | .busyPoll, .byte b => placeAt .busyPoll (placeMiso b s)
  | _, _ => s

/-- The state in which the next step meets the instruction of a table word; unchanged where the decoder gives none. -/
def placeTableWord (s : State) (nbits w : Nat) : State :=
  match decodeTableWord nbits w with
  | some i => placeInstr i s
  | none => s

end Sys2Proof.Machine
end

