-- ==== Sys2Proof/Machine/Step.lean ====
section
/-! DEFINITION. One step of the machine, and a word of the opcode table placed for the next step. -/

namespace Sys2Proof.Machine

/-- One step: R10 refuses a configuration with a zero budget; otherwise one turn. -/
def step (s : State) : Host.Outcome State Fault Refusal :=
  if s.cfg.valid then turn s else .refused .invalidConfig

/-- The state in which the next step runs the instruction of the word `w` (log 14). -/
def State.withFetchWord (s : State) (nbits w : Nat) : State := placeTableWord s nbits w

end Sys2Proof.Machine
end

