-- ==== Sys2Proof/Laws/PerInstr.lean ====
section
/-! SUPPORT. The family TableRow: the encoding of every instruction has the fixed bits that its row of
spec/opcode_table.json gives (match and mask). -/

namespace Sys2Proof.Laws.TableRow

/-- A row's match and mask, in the row's size. -/
inductive Row where
  | host (matchBits mask : Word)
  | frame (matchBits mask : FrameWord)
  | byte (matchBits mask : Byte)

/-- The rows of spec/opcode_table.json. -/
def row : Instr → Row
  | .init _ => .host 0x00000001 0x0000000F
  | .read _ => .host 0x00000002 0x0000000F
  | .write _ => .host 0x00000003 0x0000000F
  | .ioctlSectorCount _ _ => .host 0x00000404 0x0000FF0F
  | .ioctlSectorSize _ _ => .host 0x00000504 0x0000FF0F
  | .ioctlCardType _ _ => .host 0x00000604 0x0000FF0F
  | .ioctlOther _ _ _ => .host 0x00000004 0x0000000F
  | .reserved0 _ => .host 0x00000000 0x0000000F
  | .reserved5 _ => .host 0x00000005 0x0000000F
  | .reserved6 _ => .host 0x00000006 0x0000000F
  | .reserved7 _ => .host 0x00000007 0x0000000F
  | .reserved8 _ => .host 0x00000008 0x0000000F
  | .reserved9 _ => .host 0x00000009 0x0000000F
  | .reservedA _ => .host 0x0000000A 0x0000000F
  | .reservedB _ => .host 0x0000000B 0x0000000F
  | .reservedC _ => .host 0x0000000C 0x0000000F
  | .reservedD _ => .host 0x0000000D 0x0000000F
  | .reservedE _ => .host 0x0000000E 0x0000000F
  | .reservedF _ => .host 0x0000000F 0x0000000F
  | .cmd0 => .frame 0x400000000095 0xFFFFFFFFFFFF
  | .cmd8 => .frame 0x48000001AA87 0xFFFFFFFFFFFF
  | .cmd55 _ => .frame 0x770000000000 0xFFFFFFFFFF00
  | .acmd41V1 _ => .frame 0x690000000000 0xFFFFFFFFFF00
  | .acmd41V2 _ => .frame 0x694000000000 0xFFFFFFFFFF00
  | .cmd58Loop _ => .frame 0x7A0000000000 0xFFFFFFFFFF00
  | .cmd58Final _ => .frame 0x7A0000000000 0xFFFFFFFFFF00
  | .cmd9 _ => .frame 0x490000000000 0xFFFFFFFFFF00
  | .cmd16 _ => .frame 0x500000020000 0xFFFFFFFFFF00
  | .cmd17 _ _ => .frame 0x510000000000 0xFF0000000000
  | .cmd18 _ _ => .frame 0x520000000000 0xFF0000000000
  | .cmd12 _ => .frame 0x4C0000000000 0xFFFFFFFFFF00
  | .cmd24 _ _ => .frame 0x580000000000 0xFF0000000000
  | .cmd25 _ _ => .frame 0x590000000000 0xFF0000000000
  | .r1Valid _ => .byte 0x00 0x80
  | .tokenStartRx => .byte 0xFE 0xFF
  | .tokenStartTx => .byte 0xFE 0xFF
  | .tokenMultiWrite => .byte 0xFC 0xFF
  | .tokenStopTran => .byte 0xFD 0xFF
  | .dataAccepted _ => .byte 0x05 0x1F
  | .dataRejected _ => .byte 0x00 0x00
  | .busy => .byte 0x00 0xFF

/-- The code has the row's size and its fixed bits. -/
def fits : Row → Code → Prop
  | .host m k, .host w => w &&& k = m
  | .frame m k, .frame w => w &&& k = m
  | .byte m k, .byte w => w &&& k = m
  | _, _ => False

/-- The encoding of `i` has the fixed bits of its row. -/
def Statement (i : Instr) : Prop := fits (row i) (encode i)

theorem hostWord_op (rest : BitVec 28) (op : BitVec 4) : hostWord rest op &&& 0x0000000F = op.setWidth 32 := by
  apply BitVec.eq_of_getLsbD_eq
  intro j hj
  simp only [hostWord, BitVec.getLsbD_and, BitVec.getLsbD_append, BitVec.getLsbD_setWidth]
  interval_cases j <;> simp

theorem ioctlWord_op (hi : BitVec 16) (iop : BitVec 8) (mid : BitVec 4) :
    ioctlWord hi iop mid &&& 0x0000000F = 0x00000004 := by
  apply BitVec.eq_of_getLsbD_eq
  intro j hj
  simp only [ioctlWord, BitVec.getLsbD_and, BitVec.getLsbD_append]
  interval_cases j <;> simp

theorem ioctlWord_both (hi : BitVec 16) (iop : BitVec 8) (mid : BitVec 4) :
    ioctlWord hi iop mid &&& 0x0000FF0F = (iop ++ (0 : BitVec 4) ++ (4 : BitVec 4)).setWidth 32 := by
  apply BitVec.eq_of_getLsbD_eq
  intro j hj
  simp only [ioctlWord, BitVec.getLsbD_and, BitVec.getLsbD_append, BitVec.getLsbD_setWidth]
  interval_cases j <;> simp

theorem frameWord_head (first : Byte) (arg : Word) (crc : Byte) :
    frameWord first arg crc &&& 0xFF0000000000 = frameWord first 0 0 := by
  apply BitVec.eq_of_getLsbD_eq
  intro j hj
  simp only [frameWord, BitVec.getLsbD_and, BitVec.getLsbD_append]
  interval_cases j <;> simp

theorem frameWord_head_arg (first : Byte) (arg : Word) (crc : Byte) :
    frameWord first arg crc &&& 0xFFFFFFFFFF00 = frameWord first arg 0 := by
  apply BitVec.eq_of_getLsbD_eq
  intro j hj
  simp only [frameWord, BitVec.getLsbD_and, BitVec.getLsbD_append]
  interval_cases j <;> simp

theorem init (rest : BitVec 28) : Statement (.init rest) := hostWord_op rest _
theorem read (rest : BitVec 28) : Statement (.read rest) := hostWord_op rest _
theorem write (rest : BitVec 28) : Statement (.write rest) := hostWord_op rest _
theorem ioctlSectorCount (hi : BitVec 16) (mid : BitVec 4) : Statement (.ioctlSectorCount hi mid) := ioctlWord_both hi _ mid
theorem ioctlSectorSize (hi : BitVec 16) (mid : BitVec 4) : Statement (.ioctlSectorSize hi mid) := ioctlWord_both hi _ mid
theorem ioctlCardType (hi : BitVec 16) (mid : BitVec 4) : Statement (.ioctlCardType hi mid) := ioctlWord_both hi _ mid
theorem ioctlOther (hi : BitVec 16) (iop : BitVec 8) (mid : BitVec 4) : Statement (.ioctlOther hi iop mid) := ioctlWord_op hi iop mid
theorem reserved0 (rest : BitVec 28) : Statement (.reserved0 rest) := hostWord_op rest _
theorem reserved5 (rest : BitVec 28) : Statement (.reserved5 rest) := hostWord_op rest _
theorem reserved6 (rest : BitVec 28) : Statement (.reserved6 rest) := hostWord_op rest _
theorem reserved7 (rest : BitVec 28) : Statement (.reserved7 rest) := hostWord_op rest _
theorem reserved8 (rest : BitVec 28) : Statement (.reserved8 rest) := hostWord_op rest _
theorem reserved9 (rest : BitVec 28) : Statement (.reserved9 rest) := hostWord_op rest _
theorem reservedA (rest : BitVec 28) : Statement (.reservedA rest) := hostWord_op rest _
theorem reservedB (rest : BitVec 28) : Statement (.reservedB rest) := hostWord_op rest _
theorem reservedC (rest : BitVec 28) : Statement (.reservedC rest) := hostWord_op rest _
theorem reservedD (rest : BitVec 28) : Statement (.reservedD rest) := hostWord_op rest _
theorem reservedE (rest : BitVec 28) : Statement (.reservedE rest) := hostWord_op rest _
theorem reservedF (rest : BitVec 28) : Statement (.reservedF rest) := hostWord_op rest _
theorem cmd0 : Statement .cmd0 := rfl
theorem cmd8 : Statement .cmd8 := rfl
theorem cmd55 (crc : Byte) : Statement (.cmd55 crc) := frameWord_head_arg _ _ crc
theorem acmd41V1 (crc : Byte) : Statement (.acmd41V1 crc) := frameWord_head_arg _ _ crc
theorem acmd41V2 (crc : Byte) : Statement (.acmd41V2 crc) := frameWord_head_arg _ _ crc
theorem cmd58Loop (crc : Byte) : Statement (.cmd58Loop crc) := frameWord_head_arg _ _ crc
theorem cmd58Final (crc : Byte) : Statement (.cmd58Final crc) := frameWord_head_arg _ _ crc
theorem cmd9 (crc : Byte) : Statement (.cmd9 crc) := frameWord_head_arg _ _ crc
theorem cmd16 (crc : Byte) : Statement (.cmd16 crc) := frameWord_head_arg _ _ crc
theorem cmd17 (paddr : Word) (crc : Byte) : Statement (.cmd17 paddr crc) := frameWord_head _ paddr crc
theorem cmd18 (paddr : Word) (crc : Byte) : Statement (.cmd18 paddr crc) := frameWord_head _ paddr crc
theorem cmd12 (crc : Byte) : Statement (.cmd12 crc) := frameWord_head_arg _ _ crc
theorem cmd24 (paddr : Word) (crc : Byte) : Statement (.cmd24 paddr crc) := frameWord_head _ paddr crc
theorem cmd25 (paddr : Word) (crc : Byte) : Statement (.cmd25 paddr crc) := frameWord_head _ paddr crc
theorem r1Valid (low : BitVec 7) : Statement (.r1Valid low) := by simpa [Statement, row, fits, encode] using (by decide +revert : ((0 : BitVec 1) ++ low) &&& 0x80 = (0 : Byte))
theorem tokenStartRx : Statement .tokenStartRx := rfl
theorem tokenStartTx : Statement .tokenStartTx := rfl
theorem tokenMultiWrite : Statement .tokenMultiWrite := rfl
theorem tokenStopTran : Statement .tokenStopTran := rfl
theorem dataAccepted (hi : BitVec 3) : Statement (.dataAccepted hi) := by simpa [Statement, row, fits, encode] using (by decide +revert : (hi ++ (0b00101 : BitVec 5)) &&& 0x1F = (5 : Byte))
theorem dataRejected (d : Byte) : Statement (.dataRejected d) := by simp [Statement, row, fits, encode]
theorem busy : Statement .busy := rfl

end Sys2Proof.Laws.TableRow
end

