-- ==== Sys2Proof/Safety.lean ====
section
/-! DEFINITION. What counts as a safe state of the machine, in the terms the statements use: the invariants that every
step keeps (whole-machine rules of 40_command_engine R177, 43_facade R322, 10_state R33, 41_init_sequencer R210,
42_data_transfer R272 to R275), and runs of the machine with nothing from the host. All are Bool, so that a concrete state
is checked by evaluation. -/

namespace Sys2Proof.Machine

/-- Positions that only a running INIT takes, outside SendCommand, RecvDataBlock and Abort. -/
def posOfInit : Pos → Bool
  | .initClock | .initDeassert | .powerup | .cmd0Idle | .voltageOk | .acmdSleep | .readyClock | .readyDone
  | .retryDeassert | .retryClock | .retrySleep => true
  | _ => false

/-- Positions inside RecvDataBlock (R262). -/
def posOfRecv : Pos → Bool
  | .recvAssert | .recvToken | .recvTokenSleep | .recvData | .recvStore | .recvCrc | .recvRelease | .recvReleaseClock =>
    true
  | _ => false

/-- Positions inside SendCommand (R172). -/
def posOfCommand : Pos → Bool
  | .cmdIssue | .cmdFrame | .cmdSkip | .cmdPoll | .cmdTrail | .cmdRelease | .cmdReleaseClock | .cmdTimeout
  | .cmdTimeoutClock => true
  | _ => false

/-- Positions of SendDataBlock after its token (R264). -/
def posOfSend : Pos → Bool
  | .sendFetch | .sendData | .sendCrc | .sendResponse => true
  | _ => false

/-- Positions of a write's data phase (R264, R266, R267, R274, R275). -/
def posOfWrite : Pos → Bool
  | .txAssert | .txToken | .sendFetch | .sendData | .sendCrc | .sendResponse | .stopFiller | .busyPoll | .busySleep
  | .endRelease | .endReleaseClock => true
  | _ => false

/-- Positions at which CS is deasserted (R172, R176, R177, R212, R262). -/
def posCsReleased : Pos → Bool
  | .idle | .initClock | .initDeassert | .powerup | .cmd0Idle | .voltageOk | .acmdSleep | .readyClock | .readyDone
  | .cmdIssue | .cmdReleaseClock | .cmdTimeoutClock | .recvReleaseClock | .endReleaseClock | .abortClock
  | .retryDeassert | .retryClock | .retrySleep | .finish => true
  | _ => false

/-- Positions at which CS is asserted: after CsAssert and before the release (R172, R176, R262, R264, R266, R267). At
`recvAssert` and `txAssert`, where CsAssert comes next, either level stands. -/
def posCsHeld : Pos → Bool
  | .cmdFrame | .cmdSkip | .cmdPoll | .cmdTrail | .cmdRelease | .cmdTimeout
  | .recvToken | .recvTokenSleep | .recvData | .recvStore | .recvCrc | .recvRelease
  | .txToken | .sendFetch | .sendData | .sendCrc | .sendResponse | .stopFiller
  | .busyPoll | .busySleep | .endRelease | .abortRelease => true
  | _ => false

/-- busy is 1 exactly while an operation has a position (R31, R46). -/
def busyAgrees (s : State) : Bool := s.op.busy == decide (s.seq.pos ≠ .idle)

/-- CS is deasserted where the rules say so; at `idle` this is R177. -/
def csAgrees (s : State) : Bool := !posCsReleased s.seq.pos || !s.bus.csAsserted

/-- CS is asserted where the rules say so. -/
def csHeld (s : State) : Bool := !posCsHeld s.seq.pos || s.bus.csAsserted

/-- The position fits the operation in progress and the SendCommand form last called (R142, R180 to R193). -/
def positionFits (s : State) : Bool :=
  s.seq.pos == .idle ||
    (s.op.latOp == formOp s.seq.form &&
      (!posOfInit s.seq.pos || s.op.latOp == 0x1) &&
      (!posOfRecv s.seq.pos || s.seq.form == .cmd9 || s.seq.form == .cmd17 || s.seq.form == .cmd18) &&
      (!posOfWrite s.seq.pos ||
        (s.seq.form == .cmd24 && s.seq.tok == 0xFE) ||
        (s.seq.form == .cmd25 && (s.seq.tok == 0xFC || s.seq.tok == 0xFD))) &&
      (!posOfSend s.seq.pos || s.seq.tok != 0xFD) &&
      (s.seq.pos != .stopFiller || s.seq.tok == 0xFD) &&
      (s.seq.pos != .recvStore || s.seq.form != .cmd9))

/-- R322: init_state = Ready exactly when geom_valid = true. -/
def readyAgrees (s : State) : Bool := s.geom.geomValid == decide (s.initState = .ready)

/-- R211, R323, R324: GEOM_VALID, and with it READY, is 0 for the whole of INIT; a running READ or WRITE is Ready. -/
def readyFits (s : State) : Bool :=
  s.seq.pos == .idle || (if s.op.latOp = 0x1 then !s.geom.geomValid else s.geom.geomValid)

/-- R210, R212: at most 8 attempts, none before the first CMD0, fewer than 8 where a retry is on its way. -/
def attemptBounded (s : State) : Bool :=
  decide (s.op.attempt.toNat ≤ 8) &&
    (!(s.seq.pos == .initClock || s.seq.pos == .initDeassert || s.seq.pos == .powerup) || s.op.attempt == 0) &&
    (!(s.seq.pos == .retryDeassert || s.seq.pos == .retryClock || s.seq.pos == .retrySleep) ||
      decide (s.op.attempt.toNat < 8))

/-- Whether the running transfer still has a block to move at its position (R272 to R275). -/
def blockPending (s : State) : Bool :=
  ((posOfCommand s.seq.pos || posOfRecv s.seq.pos || posOfSend s.seq.pos) && s.op.latOp != 0x1 && s.seq.form != .cmd12) ||
    ((s.seq.pos == .txAssert || s.seq.pos == .txToken) && s.seq.tok != 0xFD) ||
    ((s.seq.pos == .busyPoll || s.seq.pos == .busySleep) && s.seq.tok == 0xFC)

/-- R94, R272 to R275: a running transfer has a legal length, and a block still to be moved is one of its n blocks. -/
def blockBounded (s : State) : Bool :=
  (s.seq.pos == .idle || s.op.latOp == 0x1 || lengthOk s) &&
    (!blockPending s || decide (s.op.blocksDone.toNat < blockCount s))

/-- The byte counter of the data phases is inside its block (R262, R264). -/
def byteBounded (s : State) : Bool :=
  !(s.seq.pos == .recvData || s.seq.pos == .recvStore || s.seq.pos == .sendFetch || s.seq.pos == .sendData) ||
    decide (s.seq.k < Config.blockSize)

/-- R142: where SendCommand is called, FRAME holds one of the 14 frames. -/
def frameReady (s : State) : Bool := s.seq.pos != .cmdIssue || (fetched s).isSome

/-- The invariant of the block: the conjunction of the rules above. -/
def Inv (s : State) : Bool :=
  busyAgrees s && csAgrees s && positionFits s && readyAgrees s && readyFits s && attemptBounded s && blockBounded s
    && byteBounded s && frameReady s

/-- The host does nothing, and host memory takes every access: the framer runs alone. -/
def framerAlone (s : State) : Bool := s.env.host == [] && s.env.refused == []

/-- `k` framer steps of the machine. -/
def runSteps (k : Nat) (s : State) : Host.Outcome State Fault Refusal := Sys2Proof.core.run k s

/-- Byte address `a` is one of the transfer buffer's (R93): B(i) for some i < lat_len. -/
def inBuffer (a : Word) (s : State) : Prop := ∃ i, i < s.op.latLen.toNat ∧ bufferAddress i s = a

/-! ### Words the statements share -/

/-- The SendCommand form of a frame (R142). -/
def formOfInstr : Instr → Option Form
  | .cmd0 => some .cmd0
  | .cmd8 => some .cmd8
  | .cmd55 _ => some .cmd55
  | .acmd41V1 _ => some .acmd41V1
  | .acmd41V2 _ => some .acmd41V2
  | .cmd58Loop _ => some .cmd58Loop
  | .cmd58Final _ => some .cmd58Final
  | .cmd9 _ => some .cmd9
  | .cmd16 _ => some .cmd16
  | .cmd17 _ _ => some .cmd17
  | .cmd18 _ _ => some .cmd18
  | .cmd12 _ => some .cmd12
  | .cmd24 _ _ => some .cmd24
  | .cmd25 _ _ => some .cmd25
  | _ => none

/-- The framer's position asks for instruction `i`: the bits that stand there decode to it (R31). -/
def meets (i : Instr) (s : State) : Prop :=
  (s.seq.pos = .cmdIssue ∧
    decode (.frameOut (s.seq.form = .cmd58Final)) (.frame (frameAsWord s.cmd.frame)) = .ok i) ∨
  (s.seq.pos = .cmdPoll ∧ decode .r1Poll (.byte (nextMiso s)) = .ok i) ∨
  (s.seq.pos = .recvToken ∧ decode .tokenPoll (.byte (nextMiso s)) = .ok i) ∨
  (s.seq.pos = .txToken ∧ decode .tokenOut (.byte s.seq.tok) = .ok i) ∨
  (s.seq.pos = .sendResponse ∧ decode .dataResponse (.byte (nextMiso s)) = .ok i) ∨
  (s.seq.pos = .busyPoll ∧ decode .busyPoll (.byte (nextMiso s)) = .ok i)

/-- SendCommand has begun (R172): FRAME holds `bytes`, CS is asserted (with an event if it was not), and the first frame
byte comes next. -/
def hasBegun (f : Form) (bytes : List Byte) (s t : State) : Prop :=
  t.cmd.frame.toList = bytes ∧ t.seq = { s.seq with pos := .cmdFrame, form := f, k := 0 } ∧
  t.bus = { s.bus with csAsserted := true } ∧
  t.traceRev = (if s.bus.csAsserted then s.traceRev else .cs true :: s.traceRev)

/-- The byte the card answers in the k-th exchange from here, counted from 0 (R27): a listed one, or the free value. -/
def misoAt (k : Nat) (s : State) : Byte :=
  match s.env.miso[k]? with
  | some b => b
  | none => Config.cardByte (s.env.drawn + k)

/-- The events of one exchange for each byte of `mosi` in order, the first of them the `first`-th from here (R26). -/
def exchanges (cs : Bool) (first : Nat) (mosi : List Byte) (s : State) : List Event :=
  mosi.mapIdx fun i m => .x cs m (misoAt (first + i) s)

/-- The event of `Sleep(ms)`, none for 0 (R26). -/
def sleepEvents (ms : Word) : List Event := if ms = 0 then [] else [.sleep ms]

/-- The events of `n` polls of 0xFF, each followed by `Sleep(ms)` (R261, R266). -/
def pollEvents (ms : Word) (n : Nat) (s : State) : List Event :=
  (List.range n).flatMap fun k => .x s.bus.csAsserted 0xFF (misoAt k s) :: sleepEvents ms

/-- R172: how many filler bytes precede the R1 poll of the form in progress (R175's s). -/
def skipCount (s : State) : Nat := if formSkipFirst s.cfg s.seq.form then 1 else 0

/-- The attempt has gone to Fail (R220, R210): a retry comes next while attempts are left, InitFailed after the eighth. -/
def hasFailed (s t : State) : Prop :=
  t.initState = .fail ∧ (s.op.attempt ≠ 8 → t.seq.pos = .retryDeassert) ∧
  (s.op.attempt = 8 → t.seq.pos = .finish ∧ t.seq.code = .initFailed)

/-- SendCommand is at its last exchange and returns `r` (R172): R1 after the release, or Timeout (`none`). -/
def returns (r : Option Byte) (s : State) : Prop :=
  (s.seq.pos = .cmdReleaseClock ∧ r = some s.seq.r1) ∨ (s.seq.pos = .cmdTimeoutClock ∧ r = none)

/-- The four bytes of an argument, most significant first (R90). -/
def bigEndian (w : Word) : List Byte :=
  [w.extractLsb' 24 8, w.extractLsb' 16 8, w.extractLsb' 8 8, w.extractLsb' 0 8]

/-- The registers after an accepted CMD write of `v` (R320), but for done, err, result, res_valid, attempt and busy, which
the operation may set in the same step. -/
def hasAccepted (v : Word) (s t : State) : Prop :=
  t.host = { s.host with cmd := v } ∧
  t.op.latOp = v.extractLsb' 0 4 ∧ t.op.latIop = v.extractLsb' 8 8 ∧
  t.op.latBlk = s.host.blockNum ∧ t.op.latAddr = s.host.bufAddr ∧ t.op.latLen = s.host.bufLen ∧
  t.op.blocksDone = (if v.extractLsb' 0 4 = 2 ∨ v.extractLsb' 0 4 = 3 then 0 else s.op.blocksDone) ∧
  t.op.ovr = s.op.ovr ∧ t.op.progIp = s.op.progIp ∧ t.op.doneIe = s.op.doneIe ∧ t.op.progIe = s.op.progIe

/-- The operation has completed with `code` (R351). -/
def hasCompleted (code : ErrCode) (t : State) : Prop :=
  t.op.err = code ∧ t.op.busy = false ∧ t.op.done = true ∧ t.seq.pos = .idle

/-- No bus event and no host memory access: TRACE, the bus, host memory and the environment are as before. -/
def noBusActivity (s t : State) : Prop :=
  t.traceRev = s.traceRev ∧ t.bus = s.bus ∧ t.mem = s.mem ∧ t.env = s.env

/-- The registers of the command engine, the geometry and the init state are as before. -/
def sameCardView (s t : State) : Prop :=
  t.cmd = s.cmd ∧ t.csd = s.csd ∧ t.geom = s.geom ∧ t.initState = s.initState ∧ t.cfg = s.cfg

end Sys2Proof.Machine
end

