-- ==== Sys2Proof/Certificates/Slice0/Obligations.lean ====
section
/-! DEFINITION. The statements for the provers, from the numbered rules of spec/. A count of steps in them (runSteps) rests on
where a step begins and ends, the model's reading (log 1, DEDUCED). -/

open Sys2Proof Sys2Proof.Machine

/-! ## Encoding -/

/-- R140, R142, R122, R128, R130, R131: decoding an encoded well-formed instruction on its channel gives it back, with every
operand at every value. -/
def Obligations.DecodeEncodeAgree : Prop :=
  ∀ i : Instr, WellFormed i = true → decode (channelOf i) (encode i) = .ok i

/-- Where a channel accepts bits at all, the instruction is well-formed and its encoding is those bits: no bit is dropped and
no two words are one instruction. -/
def Obligations.EncodeDecodeAgree : Prop :=
  ∀ (ch : Channel) (c : Code) (i : Instr), decode ch c = .ok i → WellFormed i = true ∧ encode i = c

/-- R320, R40, R142 and the rows of the opcode table: a few words written out in the spec decode as it says. -/
def Obligations.SpecWordsDecode : Prop :=
  decode .hostCmd (.host 0x00000001) = .ok (.init 0) ∧
  decode .hostCmd (.host 0x00000402) = .ok (.read 0x40) ∧
  decode .hostCmd (.host 0x00000404) = .ok (.ioctlSectorCount 0 0) ∧
  decode .hostCmd (.host 0x00000704) = .ok (.ioctlOther 0 7 0) ∧
  decode .hostCmd (.host 0x00000007) = .ok (.reserved7 0) ∧
  decode (.frameOut false) (.frame 0x400000000095) = .ok .cmd0 ∧
  decode (.frameOut false) (.frame 0x48000001AA87) = .ok .cmd8 ∧
  decode (.frameOut false) (.frame 0x694000000001) = .ok (.acmd41V2 0x01) ∧
  decode (.frameOut true) (.frame 0x7A0000000001) = .ok (.cmd58Final 0x01) ∧
  decode (.frameOut false) (.frame 0x581234567801) = .ok (.cmd24 0x12345678 0x01) ∧
  decode (.frameOut false) (.frame 0x410000000001) = .error .frameNotEmitted ∧
  decode .r1Poll (.byte 0x05) = .ok (.r1Valid 0x05) ∧
  decode .r1Poll (.byte 0x80) = .error .noResponse ∧
  decode .tokenPoll (.byte 0xFC) = .error .notStartToken ∧
  decode .dataResponse (.byte 0xE5) = .ok (.dataAccepted 7) ∧
  decode .dataResponse (.byte 0x0B) = .ok (.dataRejected 0x0B)

/-- R171: the CRC byte is 0x95 for CMD0 with argument 0, 0x87 for CMD8 with argument 0x1AA, and the placeholder for every
other index and argument. -/
def Obligations.CrcByteIsTheConstantTable : Prop :=
  ∀ (cfg : Config.Params) (index : BitVec 6) (arg : Word),
    (index = 0 ∧ arg = 0 → crcByte cfg index arg = 0x95) ∧
    (index = 8 ∧ arg = 0x000001AA → crcByte cfg index arg = 0x87) ∧
    (¬(index = 0 ∧ arg = 0) ∧ ¬(index = 8 ∧ arg = 0x000001AA) → crcByte cfg index arg = cfg.crcPlaceholder)

/-! ## The step -/

/-- A step runs the instruction it meets: the word the host writes to CMD (R41, R320), or what stands at the framer's position
(R31). Whose turn it is, is the model's choice (log 2, DESIGN CHOICE): the host's list of actions says it, and an empty list, a
listed tick, or a host still waiting for DONE (R144) leaves the framer its turn. -/
def Obligations.StepRunsDecodedInstruction : Prop :=
  ∀ (s : State) (i : Instr), s.cfg.valid = true →
    (∀ v rest, s.env.host = .write 4 0x00 v :: rest → decode .hostCmd (.host v) = .ok i → step s = exec i (popHost s)) ∧
    (s.env.host = [] → meets i s → step s = exec i s) ∧
    (∀ rest, s.env.host = .tick :: rest → meets i (popHost s) → step s = exec i (popHost s)) ∧
    (∀ rest, s.env.host = .waitDone :: rest → s.op.done = false → meets i s → step s = exec i s)

/-! ## The host's side: registers (10_state) -/

/-- R10: a configuration with a budget of 0 is refused, and so is PROGRESS_INTERVAL = 0, which R8 types as at least 1 (log 7,
DEDUCED). R40: an access that is not 32 bits wide, or not at one of the eighteen offsets, is refused, read or write. -/
def Obligations.OtherAccessesAreRefused : Prop :=
  ∀ s : State,
    (s.cfg.r1PollBudget = 0 ∨ s.cfg.acmd41Budget = 0 ∨ s.cfg.tokenPollBudget = 0 ∨ s.cfg.busyPollBudget = 0 ∨
      s.cfg.progressInterval = 0 → step s = .refused .invalidConfig) ∧
    (∀ (bytes offset : Nat) (v : Word) (rest : List HostAction), s.cfg.valid = true →
      (bytes ≠ 4 ∨ offset % 4 ≠ 0 ∨ 0x44 < offset) →
      (s.env.host = .write bytes offset v :: rest ∨ s.env.host = .read bytes offset :: rest) →
      step s = .refused (.hostAccess bytes offset))

/-- R96: a host read of any register changes nothing of the block; it only returns the register's value. -/
def Obligations.RegisterReadHasNoSideEffect : Prop :=
  ∀ (s : State) (r : Reg) (rest : List HostAction), s.cfg.valid = true → s.env.host = .read 4 (regOffset r) :: rest →
    step s = .next { s with env := { s.env with host := rest, rdata := readReg r s } }

/-- R41 to R45, R51 to R58: CMD, BLOCK_NUM, BUF_ADDR, BUF_LEN, RESULT and SECTORS read their register; each field of STATUS, GEOM,
LAST_CMD, INT_EN and INT_STAT reads its register, the other bits read 0; SECTOR_SIZE reads 512; CAP and CSD0 to CSD3 show the
captured bytes, the first most significant; PROGRESS reads blocks_done. ERR, INIT_STATE, CARD_TYPE and ADDR_UNIT read the numbers
of R340, R32 and R34. The eighteen registers stand at the offsets of R40. The registers of R53 to R57 ignore writes and, SECTOR_SIZE
apart, read 0 after reset. -/
def Obligations.RegisterFieldsRead : Prop :=
  ∀ s : State,
    (readReg .cmd s = s.host.cmd ∧ readReg .blockNum s = s.host.blockNum ∧ readReg .bufAddr s = s.host.bufAddr ∧
      readReg .bufLen s = s.host.bufLen ∧ readReg .result s = s.op.result ∧ readReg .sectors s = s.geom.sectorCount) ∧
    ((readReg .status s).getLsbD 0 = s.op.busy ∧ (readReg .status s).getLsbD 1 = s.op.done ∧
      (readReg .status s).getLsbD 2 = decide (s.initState = .ready) ∧ (readReg .status s).getLsbD 3 = s.bus.csAsserted ∧
      (readReg .status s).getLsbD 4 = s.op.resValid ∧ (readReg .status s).getLsbD 7 = s.op.ovr ∧
      (readReg .status s).extractLsb' 8 3 = errCode s.op.err ∧ (readReg .status s).extractLsb' 12 4 = initCode s.initState ∧
      (readReg .status s).extractLsb' 16 4 = s.op.attempt ∧ (readReg .status s).extractLsb' 5 2 = 0 ∧
      (readReg .status s).getLsbD 11 = false ∧ (readReg .status s).extractLsb' 20 12 = 0) ∧
    ((readReg .geom s).extractLsb' 0 1 = cardTypeBit s.geom.cardType ∧
      (readReg .geom s).extractLsb' 1 1 = addressUnitBit s.geom.addressUnit ∧
      (readReg .geom s).getLsbD 2 = s.geom.geomValid ∧ (readReg .geom s).extractLsb' 3 29 = 0) ∧
    ((readReg .lastCmd s).extractLsb' 0 6 = s.cmd.lastIdx ∧ (readReg .lastCmd s).extractLsb' 8 8 = s.cmd.lastR1 ∧
      (readReg .lastCmd s).getLsbD 16 = s.cmd.lastTo ∧ (readReg .lastCmd s).getLsbD 31 = s.cmd.lastValid ∧
      (readReg .lastCmd s).extractLsb' 6 2 = 0 ∧ (readReg .lastCmd s).extractLsb' 17 14 = 0) ∧
    ((readReg .intEn s).getLsbD 0 = s.op.doneIe ∧ (readReg .intEn s).getLsbD 1 = s.op.progIe ∧
      (readReg .intEn s).extractLsb' 2 30 = 0 ∧ (readReg .intStat s).getLsbD 0 = s.op.done ∧
      (readReg .intStat s).getLsbD 1 = s.op.progIp ∧ (readReg .intStat s).extractLsb' 2 30 = 0) ∧
    bigEndian (readReg .cap s) = s.cmd.cap.toList ∧
    bigEndian (readReg .csd0 s) ++ bigEndian (readReg .csd1 s) ++ bigEndian (readReg .csd2 s) ++ bigEndian (readReg .csd3 s)
      = s.csd.toList ∧
    readReg .sectorSize s = 0x00000200 ∧ readReg .progress s = s.op.blocksDone ∧
    (∀ e ∈ [(ErrCode.ok, (0 : BitVec 3)), (.busTimeout, 1), (.illegalCommand, 2), (.initFailed, 3), (.dataTokenError, 4),
        (.protocolViolation, 5)], s.op.err = e.1 → (readReg .status s).extractLsb' 8 3 = e.2) ∧
    (∀ e ∈ [(InitState.uninitialized, (0 : BitVec 4)), (.reset, 1), (.cmd0Idle, 2), (.versionProbe, 3), (.v1Init, 4), (.v2Init, 5),
        (.voltageOk, 6), (.csdRead, 7), (.blockLenSet, 8), (.ready, 9), (.fail, 10)],
      s.initState = e.1 → (readReg .status s).extractLsb' 12 4 = e.2) ∧
    (readReg .geom s).getLsbD 0 = decide (s.geom.cardType = .highCapacity) ∧
    (readReg .geom s).getLsbD 1 = decide (s.geom.addressUnit = .block) ∧
    [0x00, 0x04, 0x08, 0x0C, 0x10, 0x14, 0x18, 0x1C, 0x20, 0x24, 0x28, 0x2C, 0x30, 0x34, 0x38, 0x3C, 0x40, 0x44].map
        (accessedReg 4) =
      [Reg.cmd, .blockNum, .bufAddr, .bufLen, .status, .result, .sectors, .geom, .sectorSize, .lastCmd, .cap, .csd0, .csd1, .csd2,
        .csd3, .progress, .intEn, .intStat].map some ∧
    (∀ r : Reg, accessedReg 4 (regOffset r) = some r) ∧
    (∀ r ∈ [Reg.geom, .sectorSize, .lastCmd, .cap, .csd0, .csd1, .csd2, .csd3, .progress],
      (∀ v, writeReg r v s = s) ∧ (r ≠ .sectorSize → readReg r State.reset = 0))

/-- R360: irq = (done & done_ie) | (prog_ip & prog_ie): high exactly when an enabled pending bit is set, as the host reads
INT_STAT and INT_EN. -/
def Obligations.IrqIsPendingAndEnabled : Prop :=
  ∀ s : State,
    irq s = ((s.op.done && s.op.doneIe) || (s.op.progIp && s.op.progIe)) ∧
    (irq s = true ↔ readReg .intStat s &&& readReg .intEn s ≠ 0)

/-- R401, R40: a write to BLOCK_NUM, BUF_ADDR or BUF_LEN is stored, in a running operation too, and changes nothing else; a
write to a read-only register changes nothing. -/
def Obligations.PlainRegisterWrites : Prop :=
  ∀ (s : State) (v : Word) (rest : List HostAction), s.cfg.valid = true →
    (s.env.host = .write 4 0x04 v :: rest →
      step s = .next { s with env := { s.env with host := rest }, host := { s.host with blockNum := v } }) ∧
    (s.env.host = .write 4 0x08 v :: rest →
      step s = .next { s with env := { s.env with host := rest }, host := { s.host with bufAddr := v } }) ∧
    (s.env.host = .write 4 0x0C v :: rest →
      step s = .next { s with env := { s.env with host := rest }, host := { s.host with bufLen := v } }) ∧
    (∀ r : Reg, r ∉ [Reg.cmd, .blockNum, .bufAddr, .bufLen, .status, .intEn, .intStat] →
      s.env.host = .write 4 (regOffset r) v :: rest → step s = .next { s with env := { s.env with host := rest } })

/-- R58: INT_EN and INT_STAT: their fields, the enables stored, 1 clears a pending bit, DONE_IP is STATUS.DONE, other bits 0. -/
def Obligations.InterruptRegisters : Prop :=
  ∀ (s : State) (v : Word) (rest : List HostAction), s.cfg.valid = true →
    (s.env.host = .write 4 0x40 v :: rest →
      step s = .next { s with
        env := { s.env with host := rest }, op := { s.op with doneIe := v.getLsbD 0, progIe := v.getLsbD 1 } }) ∧
    (s.env.host = .write 4 0x44 v :: rest →
      step s = .next { s with
        env := { s.env with host := rest }
        op := { s.op with
          done := if v.getLsbD 0 then false else s.op.done, progIp := if v.getLsbD 1 then false else s.op.progIp } }) ∧
    (s.env.host = .read 4 0x40 :: rest →
      ∃ t, step s = .next t ∧ t.env.rdata.getLsbD 0 = s.op.doneIe ∧ t.env.rdata.getLsbD 1 = s.op.progIe ∧
        t.env.rdata.extractLsb' 2 30 = 0) ∧
    (s.env.host = .read 4 0x44 :: rest →
      ∃ t, step s = .next t ∧ t.env.rdata.getLsbD 0 = s.op.done ∧ t.env.rdata.getLsbD 1 = s.op.progIp ∧
        t.env.rdata.extractLsb' 2 30 = 0 ∧ t.env.rdata.getLsbD 0 = (readReg .status s).getLsbD 1) ∧
    readReg .intEn State.reset = 0 ∧ readReg .intStat State.reset = 0

/-- R50: a write to STATUS clears DONE by bit 1 and OVR by bit 7 and ignores the other bits; in the same step as a completion,
the completion wins and DONE reads 1 afterwards. R362: so it does against a clear by INT_STAT bit 0. -/
def Obligations.StatusWriteClears : Prop :=
  ∀ (s : State) (v : Word) (rest : List HostAction), s.cfg.valid = true →
    (s.env.host = .write 4 0x10 v :: rest →
      step s = .next { s with
        env := { s.env with host := rest }
        op := { s.op with
          done := if v.getLsbD 1 then false else s.op.done, ovr := if v.getLsbD 7 then false else s.op.ovr } }) ∧
    (s.op.busy = true → (s.seq.pos = .finish ∨ s.seq.pos = .readyDone) → s.env.host = .writeWith 4 0x10 v :: rest →
      ∃ t, step s = .next t ∧ hasCompleted (if s.seq.pos = .finish then s.seq.code else .ok) t ∧ (readReg .status t).getLsbD 1 = true ∧
        t.op.ovr = (if v.getLsbD 7 then false else s.op.ovr) ∧ t.op.progIp = s.op.progIp) ∧
    (s.op.busy = true → (s.seq.pos = .finish ∨ s.seq.pos = .readyDone) → s.env.host = .writeWith 4 0x44 v :: rest →
      ∃ t, step s = .next t ∧ hasCompleted (if s.seq.pos = .finish then s.seq.code else .ok) t ∧ (readReg .status t).getLsbD 1 = true ∧
        t.op.ovr = s.op.ovr ∧ t.op.progIp = (if v.getLsbD 1 then false else s.op.progIp))

/-- R390, R391: reset takes every internal register to its reset value, from any state and in a running operation, with no bus
event and no Abort: the host reads 0 from every register but SECTOR_SIZE, irq is low, CS_N high, TRACE empty, and host memory
keeps its bytes. -/
def Obligations.ResetAction : Prop :=
  ∀ (s : State) (rest : List HostAction), s.cfg.valid = true → s.env.host = .reset :: rest →
    ∃ t, step s = .next t ∧ t.host = { cmd := 0, blockNum := 0, bufAddr := 0, bufLen := 0 } ∧
      t.op = {
        busy := false, done := false, err := .ok, result := 0, resValid := false, ovr := false, attempt := 0, blocksDone := 0,
        progIp := false, doneIe := false, progIe := false, latOp := 0, latIop := 0, latBlk := 0, latAddr := 0, latLen := 0 } ∧
      t.initState = .uninitialized ∧
      t.geom = { sectorCount := 0, cardType := .standardCapacity, addressUnit := .byte, geomValid := false } ∧
      t.bus = { csAsserted := false, clockHz := none } ∧
      t.cmd = {
        frame := #v[0, 0, 0, 0, 0, 0], cap := #v[0, 0, 0, 0], lastIdx := 0, lastR1 := 0, lastTo := false, lastValid := false } ∧
      t.csd = Vector.replicate 16 0 ∧ t.seq.pos = .idle ∧ t.traceRev = [] ∧
      (∀ r, readReg r t = if r = .sectorSize then 0x200 else 0) ∧ irq t = false ∧ csN t = true ∧
      t.mem = s.mem ∧ t.cfg = s.cfg ∧ t.env = { s.env with host := rest }

/-! ## The host operations (43_facade) -/

/-- R320, R41: a CMD write while idle is accepted, whatever its word: the word is stored, the operands are latched, OVR, PROG_IP
and the enables are kept. -/
def Obligations.CommandIsAcceptedWhenIdle : Prop :=
  ∀ (v : Word) (s : State), s.op.busy = false → ∃ t, exec (decodeHost v) s = .next t ∧ hasAccepted v s t

/-- R41, R400: a CMD write while an operation runs, whatever its word, is ignored; only OVR is set. That CMD[15:8] is ignored with
the rest, against 93_implementation_defined U31, is the model's reading (log 26, DEDUCED). -/
def Obligations.CommandWhileBusyOnlySetsOvr : Prop :=
  ∀ (v : Word) (s : State), s.op.busy = true → exec (decodeHost v) s = .next { s with op := { s.op with ovr := true } }

/-- The frame of the host operations: accepted or ignored, no host operation makes a bus event, touches host memory, or writes
CAP, CSD, last_idx, last_r1, last_to, last_valid, clock, CS or a parameter in its own step. -/
def Obligations.HostOperationsFrame : Prop :=
  ∀ (v : Word) (s t : State), exec (decodeHost v) s = .next t →
    noBusActivity s t ∧ (∀ a, memByte a t = memByte a s) ∧ t.csd = s.csd ∧ t.cfg = s.cfg ∧
    t.cmd = { s.cmd with frame := t.cmd.frame } ∧
    t.host.blockNum = s.host.blockNum ∧ t.host.bufAddr = s.host.bufAddr ∧ t.host.bufLen = s.host.bufLen ∧
    t.op.progIp = s.op.progIp ∧ t.op.doneIe = s.op.doneIe ∧ t.op.progIe = s.op.progIe

/-- R330, R211: INIT is accepted in every init state and clears the geometry, the attempt count and Ready before its first
primitive, SetClock. That it leaves Ready here, to Reset, is the model's reading (log 8). -/
def Obligations.InitStarts : Prop :=
  ∀ (rest : BitVec 28) (s : State), s.op.busy = false →
    ∃ t, exec (.init rest) s = .next t ∧ hasAccepted (rest ++ (1 : BitVec 4)) s t ∧
      t.op.busy = true ∧ t.op.done = false ∧ t.op.err = .ok ∧ t.op.resValid = false ∧ t.op.result = s.op.result ∧
      t.op.attempt = 0 ∧ t.seq.pos = .initClock ∧
      t.geom = { sectorCount := 0, cardType := .standardCapacity, addressUnit := .byte, geomValid := false } ∧
      t.initState = (if s.initState = .ready then .reset else s.initState) ∧ t.cmd = s.cmd ∧ noBusActivity s t

/-- R323, R324, R271, R270: READ and WRITE in state Ready with a legal length build the frame of CMD17 or CMD24 for one block
and of CMD18 or CMD25 for more, at the protocol address of BLOCK_NUM, and stay busy; no other register of the card's view
changes. -/
def Obligations.TransfersStart : Prop :=
  ∀ (rest : BitVec 28) (s : State) (i : Instr) (op : BitVec 4) (one more : Form) (oneByte moreByte : Byte),
    s.op.busy = false → s.initState = .ready → s.host.bufLen.toNat % 512 = 0 → s.host.bufLen ≠ 0 →
    (i = .read rest ∧ op = 2 ∧ one = .cmd17 ∧ more = .cmd18 ∧ oneByte = 0x51 ∧ moreByte = 0x52) ∨
      (i = .write rest ∧ op = 3 ∧ one = .cmd24 ∧ more = .cmd25 ∧ oneByte = 0x58 ∧ moreByte = 0x59) →
    ∃ t, exec i s = .next t ∧ hasAccepted (rest ++ op) s t ∧
      t.op.busy = true ∧ t.op.done = false ∧ t.op.err = .ok ∧ t.op.resValid = false ∧ t.op.result = s.op.result ∧
      t.op.attempt = s.op.attempt ∧ t.seq.pos = .cmdIssue ∧
      t.seq.form = (if s.host.bufLen.toNat = 512 then one else more) ∧
      t.cmd = { s.cmd with frame := t.cmd.frame } ∧
      t.cmd.frame.toList = (if s.host.bufLen.toNat = 512 then oneByte else moreByte) ::
        (bigEndian (if s.geom.addressUnit = .byte then s.host.blockNum * 512 else s.host.blockNum) ++ [s.cfg.crcPlaceholder]) ∧
      t.geom = s.geom ∧ t.initState = s.initState ∧ noBusActivity s t

/-- R322, R403: READ and WRITE before Ready, or with a length that is 0 or no multiple of 512, complete with
ProtocolViolation, without bus exchange or memory access. CS is deasserted between operations (R177). -/
def Obligations.TransferPreconditionFails : Prop :=
  ∀ (rest : BitVec 28) (s : State), s.op.busy = false → s.bus.csAsserted = false →
    (s.initState ≠ .ready ∨ s.host.bufLen = 0 ∨ s.host.bufLen.toNat % 512 ≠ 0) →
    (∃ t, exec (.read rest) s = .next t ∧ hasAccepted (rest ++ (2 : BitVec 4)) s t ∧ hasCompleted .protocolViolation t ∧
      t.op.result = s.op.result ∧ t.op.resValid = false ∧ sameCardView s t ∧ noBusActivity s t) ∧
    (∃ t, exec (.write rest) s = .next t ∧ hasAccepted (rest ++ (3 : BitVec 4)) s t ∧ hasCompleted .protocolViolation t ∧
      t.op.result = s.op.result ∧ t.op.resValid = false ∧ sameCardView s t ∧ noBusActivity s t)

/-- R326, R328: in state Ready IOCTL 4 answers sector_count and IOCTL 6 the card type tag, 0 StandardCapacity or 1 HighCapacity,
with OK; elsewhere both raise ProtocolViolation. -/
def Obligations.IoctlQueriesAnswer : Prop :=
  ∀ (hi : BitVec 16) (mid : BitVec 4) (s : State) (i : Instr) (iop : BitVec 8) (answer : Word),
    s.op.busy = false → s.bus.csAsserted = false →
    (i = .ioctlSectorCount hi mid ∧ iop = 4 ∧ answer = s.geom.sectorCount) ∨
      (i = .ioctlCardType hi mid ∧ iop = 6 ∧ answer = if s.geom.cardType = .highCapacity then 1 else 0) →
    ∃ t, exec i s = .next t ∧ hasAccepted (hi ++ iop ++ mid ++ (4 : BitVec 4)) s t ∧
      (s.initState = .ready → t.op.result = answer ∧ t.op.resValid = true ∧ hasCompleted .ok t) ∧
      (s.initState ≠ .ready → t.op.result = s.op.result ∧ t.op.resValid = false ∧ hasCompleted .protocolViolation t) ∧
      t.op.attempt = s.op.attempt ∧ sameCardView s t ∧ noBusActivity s t

/-- R327: IOCTL 5 answers 512 with OK in every init state. -/
def Obligations.IoctlSectorSizeAnswers : Prop :=
  ∀ (hi : BitVec 16) (mid : BitVec 4) (s : State), s.op.busy = false →
    ∃ t, exec (.ioctlSectorSize hi mid) s = .next t ∧ hasAccepted (hi ++ (5 : BitVec 8) ++ mid ++ (4 : BitVec 4)) s t ∧
      t.op.result = 512 ∧ t.op.resValid = true ∧ hasCompleted .ok t ∧
      t.op.attempt = s.op.attempt ∧ sameCardView s t ∧ noBusActivity s t

/-- R329: IOCTL with any other code raises ProtocolViolation; RESULT keeps its value and RES_VALID = 0. -/
def Obligations.IoctlOtherViolates : Prop :=
  ∀ (hi : BitVec 16) (iop : BitVec 8) (mid : BitVec 4) (s : State), WellFormed (.ioctlOther hi iop mid) = true →
    s.op.busy = false → s.bus.csAsserted = false →
    ∃ t, exec (.ioctlOther hi iop mid) s = .next t ∧ hasAccepted (hi ++ iop ++ mid ++ (4 : BitVec 4)) s t ∧
      hasCompleted .protocolViolation t ∧ t.op.result = s.op.result ∧ t.op.resValid = false ∧
      t.op.attempt = s.op.attempt ∧ sameCardView s t ∧ noBusActivity s t

/-- R331: each reserved OP raises ProtocolViolation, with no bus activity and no memory access. -/
def Obligations.ReservedOpViolates : Prop :=
  ∀ (rest : BitVec 28) (s : State) (op : BitVec 4) (i : Instr), s.op.busy = false → s.bus.csAsserted = false →
    (op, i) ∈ [((0x0 : BitVec 4), Instr.reserved0 rest), (0x5, .reserved5 rest), (0x6, .reserved6 rest),
      (0x7, .reserved7 rest), (0x8, .reserved8 rest), (0x9, .reserved9 rest), (0xA, .reservedA rest), (0xB, .reservedB rest),
      (0xC, .reservedC rest), (0xD, .reservedD rest), (0xE, .reservedE rest), (0xF, .reservedF rest)] →
    ∃ t, exec i s = .next t ∧ hasAccepted (rest ++ op) s t ∧ hasCompleted .protocolViolation t ∧
      t.op.result = s.op.result ∧ t.op.resValid = false ∧ t.op.attempt = s.op.attempt ∧ sameCardView s t ∧ noBusActivity s t

/-! ## The command engine (40_command_engine) -/

/-- R121, R142, R172: each of the 14 frames begins SendCommand with the spec's frame bytes, the argument big-endian, and CS
asserted. -/
def Obligations.FramesBegin : Prop :=
  ∀ (paddr : Word) (crc : Byte) (s : State),
    (∃ t, exec .cmd0 s = .next t ∧ hasBegun .cmd0 [0x40, 0, 0, 0, 0, 0x95] s t) ∧
    (∃ t, exec .cmd8 s = .next t ∧ hasBegun .cmd8 [0x48, 0, 0, 0x01, 0xAA, 0x87] s t) ∧
    (∃ t, exec (.cmd55 crc) s = .next t ∧ hasBegun .cmd55 [0x77, 0, 0, 0, 0, crc] s t) ∧
    (∃ t, exec (.acmd41V1 crc) s = .next t ∧ hasBegun .acmd41V1 [0x69, 0, 0, 0, 0, crc] s t) ∧
    (∃ t, exec (.acmd41V2 crc) s = .next t ∧ hasBegun .acmd41V2 [0x69, 0x40, 0, 0, 0, crc] s t) ∧
    (∃ t, exec (.cmd58Loop crc) s = .next t ∧ hasBegun .cmd58Loop [0x7A, 0, 0, 0, 0, crc] s t) ∧
    (∃ t, exec (.cmd58Final crc) s = .next t ∧ hasBegun .cmd58Final [0x7A, 0, 0, 0, 0, crc] s t) ∧
    (∃ t, exec (.cmd9 crc) s = .next t ∧ hasBegun .cmd9 [0x49, 0, 0, 0, 0, crc] s t) ∧
    (∃ t, exec (.cmd16 crc) s = .next t ∧ hasBegun .cmd16 [0x50, 0, 0, 0x02, 0, crc] s t) ∧
    (∃ t, exec (.cmd12 crc) s = .next t ∧ hasBegun .cmd12 [0x4C, 0, 0, 0, 0, crc] s t) ∧
    (∃ t, exec (.cmd17 paddr crc) s = .next t ∧ hasBegun .cmd17 (0x51 :: (bigEndian paddr ++ [crc])) s t) ∧
    (∃ t, exec (.cmd18 paddr crc) s = .next t ∧ hasBegun .cmd18 (0x52 :: (bigEndian paddr ++ [crc])) s t) ∧
    (∃ t, exec (.cmd24 paddr crc) s = .next t ∧ hasBegun .cmd24 (0x58 :: (bigEndian paddr ++ [crc])) s t) ∧
    (∃ t, exec (.cmd25 paddr crc) s = .next t ∧ hasBegun .cmd25 (0x59 :: (bigEndian paddr ++ [crc])) s t)

/-- The frame of the 14 frames: beyond FRAME, CS with its event and the position, nothing changes; no byte of host memory. -/
def Obligations.FramesFrame : Prop :=
  ∀ (i : Instr) (f : Form) (s t : State), formOfInstr i = some f → exec i s = .next t →
    t.cfg = s.cfg ∧ t.host = s.host ∧ t.op = s.op ∧ t.initState = s.initState ∧ t.geom = s.geom ∧
    t.bus.clockHz = s.bus.clockHz ∧ t.cmd = { s.cmd with frame := t.cmd.frame } ∧ t.csd = s.csd ∧ t.mem = s.mem ∧
    (∀ a, memByte a t = memByte a s) ∧ t.env = s.env

/-- R172 to R175: from the call of SendCommand, with the first valid R1 after `misses` invalid polls within the budget (p = misses
+ 1), the command asserts CS, sends FRAME[0..5] in order and then only 0xFF, makes 6 + s + p + n + r exchanges, releases CS
before the last of them where the form releases, and sets the last_* registers; Capture(n) writes CAP[0..n-1] in the order
received and leaves the rest of CAP, Discard(n) leaves CAP. R142: each form's index, trailing mode, release and skip. -/
def Obligations.SendCommandWithAnswer : Prop :=
  (∀ e ∈ [(Form.cmd0, (0 : BitVec 6), Trailing.discard 0, true), (.cmd8, 8, .capture 4, true), (.cmd55, 55, .discard 0, true),
      (.acmd41V1, 41, .discard 0, true), (.acmd41V2, 41, .discard 0, true), (.cmd58Loop, 58, .discard 4, true),
      (.cmd58Final, 58, .capture 4, true), (.cmd9, 9, .discard 0, false), (.cmd16, 16, .discard 0, true),
      (.cmd17, 17, .discard 0, false), (.cmd18, 18, .discard 0, false), (.cmd12, 12, .discard 0, true),
      (.cmd24, 24, .discard 0, true), (.cmd25, 25, .discard 0, true)],
    (formIndex e.1, formTrailing e.1, formRelease e.1) = e.2) ∧
  (∀ s : State, skipCount s = (if s.seq.form = .cmd12 ∨
    ((s.seq.form = .acmd41V1 ∨ s.seq.form = .acmd41V2) ∧ s.cfg.acmd41SkipFirst = true) then 1 else 0)) ∧
  (∀ n, trailingCount (.discard n) = n ∧ trailingCount (.capture n) = n ∧ trailingCaptures (.discard n) = false ∧
    trailingCaptures (.capture n) = true) ∧
  ∀ (s : State) (i : Instr) (misses n : Nat), s.cfg.valid = true → s.env.host = [] → meets i s →
    formOfInstr i = some s.seq.form → misses < s.cfg.r1PollBudget.toNat → n = trailingCount (formTrailing s.seq.form) →
    (∀ k, k < misses → (misoAt (6 + skipCount s + k) s).getLsbD 7 = true) →
    (misoAt (6 + skipCount s + misses) s).getLsbD 7 = false →
    ∃ t, runSteps (1 + 6 + skipCount s + (misses + 1) + n + (if formRelease s.seq.form then 2 else 0)) s = .next t ∧
      t.trace = s.trace ++ (if s.bus.csAsserted then [] else [.cs true]) ++
        exchanges true 0 (s.cmd.frame.toList ++ List.replicate (skipCount s + (misses + 1) + n) 0xFF) s ++
        (if formRelease s.seq.form then .cs false :: exchanges false (6 + skipCount s + (misses + 1) + n) [0xFF] s else []) ∧
      t.env.drawn = s.env.drawn
        + (6 + skipCount s + (misses + 1) + n + (if formRelease s.seq.form then 1 else 0)) ∧
      t.cmd.cap.toList = (if trailingCaptures (formTrailing s.seq.form) then
          (List.range n).map (fun k => misoAt (6 + skipCount s + (misses + 1) + k) s) ++ s.cmd.cap.toList.drop n
        else s.cmd.cap.toList) ∧
      t.cmd.lastIdx = formIndex s.seq.form ∧ t.cmd.lastR1 = misoAt (6 + skipCount s + misses) s ∧ t.cmd.lastTo = false ∧
      t.cmd.lastValid = true ∧ t.bus.csAsserted = !formRelease s.seq.form ∧ t.mem = s.mem ∧ t.csd = s.csd

/-- R172, R173, R175: when every poll of the budget answers with bit 7 = 1, the command sends FRAME[0..5] and then only 0xFF, and
ends in Timeout after 6 + s + R1_POLL_BUDGET + 1 exchanges, the last with CS deasserted, whatever `release` says; last_r1 and
CAP are as they were. -/
def Obligations.SendCommandTimesOut : Prop :=
  ∀ (s : State) (i : Instr) (polls : Nat), s.cfg.valid = true → s.env.host = [] → meets i s →
    formOfInstr i = some s.seq.form → polls = s.cfg.r1PollBudget.toNat →
    (∀ k, k < polls → (misoAt (6 + skipCount s + k) s).getLsbD 7 = true) →
    ∃ t, runSteps (1 + 6 + skipCount s + polls + 2) s = .next t ∧
      t.trace = s.trace ++ (if s.bus.csAsserted then [] else [.cs true]) ++
        exchanges true 0 (s.cmd.frame.toList ++ List.replicate (skipCount s + polls) 0xFF) s ++
        .cs false :: exchanges false (6 + skipCount s + polls) [0xFF] s ∧
      t.env.drawn = s.env.drawn + (6 + skipCount s + polls + 1) ∧
      t.cmd.lastIdx = formIndex s.seq.form ∧ t.cmd.lastR1 = s.cmd.lastR1 ∧ t.cmd.lastTo = true ∧ t.cmd.lastValid = true ∧
      t.cmd.cap = s.cmd.cap ∧ t.bus.csAsserted = false ∧ t.mem = s.mem ∧ t.csd = s.csd

/-- R122, R173, R174, R189, R190, R125: a valid R1 ends the poll, whatever its bits [6:0]: trailing bytes come next where the
form has some, the release where it only releases, and for CMD9, CMD17 and CMD18 the caller's reading of the byte. -/
def Obligations.ValidR1EndsThePoll : Prop :=
  ∀ (low : BitVec 7) (s : State),
    ∃ t, exec (.r1Valid low) s = .next t ∧
      t.traceRev = .x s.bus.csAsserted 0xFF ((0 : BitVec 1) ++ low) :: s.traceRev ∧ t.seq.r1 = (0 : BitVec 1) ++ low ∧
      (s.seq.form ∈ [Form.cmd8, .cmd58Loop, .cmd58Final] → t.seq.pos = .cmdTrail ∧ t.seq.k = 0 ∧ t.cmd = s.cmd) ∧
      (s.seq.form ∈ [Form.cmd0, .cmd55, .acmd41V1, .acmd41V2, .cmd16, .cmd12, .cmd24, .cmd25] →
        t.seq.pos = .cmdRelease ∧ t.cmd = s.cmd) ∧
      (s.seq.form ∈ [Form.cmd9, .cmd17, .cmd18] →
        t.cmd.lastR1 = (0 : BitVec 1) ++ low ∧ t.cmd.lastTo = false ∧ t.cmd.lastIdx = formIndex s.seq.form ∧
        t.cmd.lastValid = true ∧
        (low = 0 → t.seq.pos = .recvAssert) ∧
        (low ≠ 0 → s.bus.csAsserted = true → t.seq.pos = .abortRelease) ∧
        (low ≠ 0 → s.bus.csAsserted = true → s.seq.form ≠ .cmd9 → t.seq.code = .illegalCommand))

/-- R176, R352, R220: Abort deasserts CS and exchanges one 0xFF; then a READ or WRITE completes with the raised code, and an INIT
is in state Fail, with a retry next while attempts are left and InitFailed after the eighth. -/
def Obligations.AbortReleasesAndCompletes : Prop :=
  ∀ s : State, s.cfg.valid = true → s.env.host = [] → s.seq.pos = .abortRelease → s.bus.csAsserted = true →
    (s.op.latOp ≠ 0x1 →
      ∃ t, runSteps 3 s = .next t ∧ hasCompleted s.seq.code t ∧ t.bus = { s.bus with csAsserted := false } ∧
        t.traceRev = .x false 0xFF (nextMiso s) :: .cs false :: s.traceRev ∧ t.mem = s.mem ∧ t.initState = s.initState ∧
        t.op = { s.op with err := s.seq.code, busy := false, done := true } ∧ t.geom = s.geom ∧ t.cmd = s.cmd ∧
        t.csd = s.csd ∧ t.host = s.host ∧ t.cfg = s.cfg) ∧
    (s.op.latOp = 0x1 →
      ∃ t, runSteps 2 s = .next t ∧ hasFailed s t ∧ t.op = s.op ∧ t.bus = { s.bus with csAsserted := false } ∧
        t.traceRev = .x false 0xFF (nextMiso s) :: .cs false :: s.traceRev ∧ t.mem = s.mem ∧ t.geom = s.geom ∧
        t.cmd = s.cmd ∧ t.csd = s.csd ∧ t.host = s.host ∧ t.cfg = s.cfg)

/-! ## Initialisation (41_init_sequencer) -/

/-- R211, R213: INIT's start sets the init clock rate, exchanges the power-up bytes with CS deasserted, and goes on to CMD0 of
the next attempt in state Reset. -/
def Obligations.PowerUpThenCmd0 : Prop :=
  ∀ s : State, s.cfg.valid = true → s.env.host = [] → s.seq.pos = .initClock → s.bus.csAsserted = false →
    ∃ t, runSteps (2 + s.cfg.powerupDummyBytes.toNat) s = .next t ∧ t.seq.pos = .cmdIssue ∧ t.seq.form = .cmd0 ∧
      t.cmd.frame.toList = [0x40, 0, 0, 0, 0, 0x95] ∧ t.op.attempt = s.op.attempt + 1 ∧ t.initState = .reset ∧
      t.bus = { csAsserted := false, clockHz := some s.cfg.initBaud } ∧
      t.env.drawn = s.env.drawn + s.cfg.powerupDummyBytes.toNat ∧
      t.trace = s.trace ++
        .clk s.cfg.initBaud :: exchanges false 0 (List.replicate s.cfg.powerupDummyBytes.toNat 0xFF) s

/-- R213, R210, R220: CMD0's R1 0x01 moves to Cmd0Idle; any other R1, or Timeout, to Fail, which retries while attempts are left
and raises InitFailed after the eighth. -/
def Obligations.Cmd0Outcome : Prop :=
  ∀ (s : State) (r : Option Byte), s.cfg.valid = true → s.env.host = [] → returns r s → s.seq.form = .cmd0 →
    s.bus.csAsserted = false →
    ∃ t, step s = .next t ∧ t.op = s.op ∧
      (r = some 0x01 → t.initState = .cmd0Idle ∧ t.seq.pos = .cmd0Idle) ∧
      (r ≠ some 0x01 → t.initState = .fail) ∧
      (r ≠ some 0x01 → s.op.attempt = 8 → t.seq.pos = .finish ∧ t.seq.code = .initFailed) ∧
      (r ≠ some 0x01 → s.op.attempt ≠ 8 → t.seq.pos = .retryDeassert)

/-- R212, R210: between attempts one byte 0xFF is exchanged with CS deasserted and the block sleeps RETRY_SLEEP_MS; then the next
attempt sends CMD0 in state Reset. -/
def Obligations.BetweenAttempts : Prop :=
  ∀ s : State, s.cfg.valid = true → s.env.host = [] → s.seq.pos = .retryDeassert → s.bus.csAsserted = false →
    ∃ t, runSteps 3 s = .next t ∧ t.seq.pos = .cmdIssue ∧ t.seq.form = .cmd0 ∧
      t.cmd.frame.toList = [0x40, 0, 0, 0, 0, 0x95] ∧ t.op.attempt = s.op.attempt + 1 ∧
      t.initState = .reset ∧ t.bus = s.bus ∧
      t.traceRev = (if s.cfg.retrySleepMs = 0 then [] else [.sleep s.cfg.retrySleepMs])
        ++ .x false 0xFF (nextMiso s) :: s.traceRev

/-- R214, R219: Cmd0Idle and VoltageOk have no bus action: VersionProbe follows the one and sends CMD8 (R215), CsdRead follows the
other and sends CMD9 (R234). That each of the two states takes one step of its own is the model's reading (log 1, DEDUCED). -/
def Obligations.MomentStatesPass : Prop :=
  ∀ s : State, s.cfg.valid = true → s.env.host = [] →
    (s.seq.pos = .cmd0Idle →
      ∃ t, step s = .next t ∧ noBusActivity s t ∧ t.initState = .versionProbe ∧ t.seq.pos = .cmdIssue ∧ t.seq.form = .cmd8 ∧
        t.cmd.frame.toList = [0x48, 0, 0, 0x01, 0xAA, 0x87]) ∧
    (s.seq.pos = .voltageOk →
      ∃ t, step s = .next t ∧ noBusActivity s t ∧ t.initState = .csdRead ∧ t.seq.pos = .cmdIssue ∧ t.seq.form = .cmd9 ∧
        t.cmd.frame.toList = [0x49, 0, 0, 0, 0, s.cfg.crcPlaceholder])

/-- R215, R181: CMD8's R1 0x01 enters V2Init, which sends CMD58; 0x05 enters V1Init, which sends CMD55; any other byte, or
Timeout, fails. -/
def Obligations.VersionProbeBranches : Prop :=
  ∀ (s : State) (r : Option Byte), s.cfg.valid = true → s.env.host = [] → returns r s → s.seq.form = .cmd8 →
    s.bus.csAsserted = false →
    ∃ t, step s = .next t ∧
      (r = some 0x01 → t.initState = .v2Init ∧ t.seq.form = .cmd58Loop ∧ t.seq.pos = .cmdIssue ∧ t.seq.iter = 0 ∧
        t.cmd.frame.toList = [0x7A, 0, 0, 0, 0, s.cfg.crcPlaceholder]) ∧
      (r = some 0x05 → t.initState = .v1Init ∧ t.seq.form = .cmd55 ∧ t.seq.pos = .cmdIssue ∧ t.seq.iter = 0 ∧
        t.cmd.frame.toList = [0x77, 0, 0, 0, 0, s.cfg.crcPlaceholder]) ∧
      (r ≠ some 0x01 → r ≠ some 0x05 → hasFailed s t)

/-- R216, R217, R182, R185: in the ACMD41 loops CMD58's result is ignored and CMD55 follows, CMD55's result is ignored and the
ACMD41 of the branch follows; ACMD41's R1 0x00 ends the loop: V1Init sets address_unit to Byte and reaches VoltageOk, V2Init
re-reads the OCR; anything else, Timeout included, sleeps and repeats while the loop budget lasts, and fails after it. -/
def Obligations.Acmd41LoopStep : Prop :=
  ∀ (s : State) (r : Option Byte), s.cfg.valid = true → s.env.host = [] → returns r s → s.bus.csAsserted = false →
    (s.seq.form = .cmd58Loop →
      ∃ t, step s = .next t ∧ t.seq.pos = .cmdIssue ∧ t.seq.form = .cmd55 ∧ t.seq.iter = s.seq.iter ∧
        t.cmd.frame.toList = [0x77, 0, 0, 0, 0, s.cfg.crcPlaceholder] ∧ t.initState = s.initState ∧ t.geom = s.geom) ∧
    (s.seq.form = .cmd55 → s.initState = .v1Init →
      ∃ t, step s = .next t ∧ t.seq.pos = .cmdIssue ∧ t.seq.form = .acmd41V1 ∧ t.seq.iter = s.seq.iter ∧
        t.cmd.frame.toList = [0x69, 0, 0, 0, 0, s.cfg.crcPlaceholder] ∧ t.initState = s.initState ∧ t.geom = s.geom) ∧
    (s.seq.form = .cmd55 → s.initState = .v2Init →
      ∃ t, step s = .next t ∧ t.seq.pos = .cmdIssue ∧ t.seq.form = .acmd41V2 ∧ t.seq.iter = s.seq.iter ∧
        t.cmd.frame.toList = [0x69, 0x40, 0, 0, 0, s.cfg.crcPlaceholder] ∧ t.initState = s.initState ∧ t.geom = s.geom) ∧
    (r = some 0x00 → s.seq.form = .acmd41V1 →
      ∃ t, step s = .next t ∧ t.initState = .voltageOk ∧ t.seq.pos = .voltageOk ∧
        t.geom = { s.geom with addressUnit := .byte }) ∧
    (r = some 0x00 → s.seq.form = .acmd41V2 →
      ∃ t, step s = .next t ∧ t.seq.form = .cmd58Final ∧ t.seq.pos = .cmdIssue ∧
        t.cmd.frame.toList = [0x7A, 0, 0, 0, 0, s.cfg.crcPlaceholder] ∧ t.initState = s.initState ∧ t.geom = s.geom) ∧
    ((s.seq.form = .acmd41V1 ∨ s.seq.form = .acmd41V2) → r ≠ some 0x00 →
      ∃ t, runSteps 2 s = .next t ∧
        (s.seq.iter + 1 < s.cfg.acmd41Budget.toNat →
          t.seq.pos = .cmdIssue ∧ t.seq.iter = s.seq.iter + 1 ∧
          t.seq.form = (if s.seq.form = .acmd41V1 then .cmd55 else .cmd58Loop) ∧
          t.cmd.frame.toList =
            [if s.seq.form = .acmd41V1 then 0x77 else 0x7A, 0, 0, 0, 0, s.cfg.crcPlaceholder] ∧
          t.initState = s.initState) ∧
        (s.cfg.acmd41Budget.toNat ≤ s.seq.iter + 1 → hasFailed s t) ∧ t.geom = s.geom ∧
        t.traceRev = (if s.cfg.acmd41IntervalMs = 0 then [] else [.sleep s.cfg.acmd41IntervalMs])
          ++ .x false 0xFF (nextMiso s) :: s.traceRev)

/-- R218, R127: the final CMD58 must answer 0x00; then CAP[0] bit 6 alone chooses address_unit, and VoltageOk is reached. -/
def Obligations.CcsChoosesAddressUnit : Prop :=
  ∀ (s : State) (r : Option Byte), s.cfg.valid = true → s.env.host = [] → returns r s → s.seq.form = .cmd58Final →
    s.bus.csAsserted = false →
    ∃ t, step s = .next t ∧
      (r = some 0x00 → t.initState = .voltageOk ∧ t.seq.pos = .voltageOk ∧
        t.geom = { s.geom with addressUnit := if (s.cmd.cap[0]).getLsbD 6 then .block else .byte }) ∧
      (r ≠ some 0x00 → hasFailed s t ∧ t.geom = s.geom)

/-- R236, R211: CMD16's R1 0x00 leads to Ready: the clock goes to DATA_BAUD, then geom_valid and Ready are set and INIT completes
with OK, in one step; up to it the init state and the geometry are as they were (log 25, DEDUCED). Anything else fails. -/
def Obligations.BlockLenSetReachesReady : Prop :=
  ∀ (s : State) (r : Option Byte), s.cfg.valid = true → s.env.host = [] → returns r s → s.seq.form = .cmd16 →
    s.bus.csAsserted = false →
    (r = some 0x00 →
      ∃ t, runSteps 3 s = .next t ∧ hasCompleted .ok t ∧ t.initState = .ready ∧
        t.geom = { s.geom with geomValid := true } ∧
        t.bus = { csAsserted := false, clockHz := some s.cfg.dataBaud } ∧
        t.traceRev = .clk s.cfg.dataBaud :: .x false 0xFF (nextMiso s) :: s.traceRev ∧
        ∃ u v, runSteps 1 s = .next u ∧ u.initState = s.initState ∧ u.geom = s.geom ∧ u.op = s.op ∧
          runSteps 2 s = .next v ∧ v.initState = s.initState ∧ v.geom = s.geom ∧ v.op = s.op ∧
          v.traceRev = t.traceRev) ∧
    (r ≠ some 0x00 → ∃ t, step s = .next t ∧ hasFailed s t ∧ t.geom = s.geom)

/-- R240: the v2.0 sector count is ((csd[8] << 8 | csd[9]) + 1) * 1024, and the u32 never overflows. -/
def Obligations.V2SectorCountIsExact : Prop :=
  ∀ csd : Vector Byte 16, (v2Sectors csd).toNat = (csd[8].toNat * 256 + csd[9].toNat + 1) * 1024

/-- R246: the legacy sector count is the formula in Nat; c_size has 12 bits and c_size_mult 3, and the quotient is at most
2^27, so that the u32 holds it. -/
def Obligations.LegacySectorCountIsExact : Prop :=
  ∀ csd : Vector Byte 16,
    legacyCSize csd = (csd[6].toNat % 4) * 1024 + csd[7].toNat * 4 + csd[8].toNat / 64 ∧
    legacyCSizeMult csd = (csd[9].toNat % 4) * 2 + csd[10].toNat / 128 ∧
    (legacySectors csd).toNat =
      (legacyCSize csd + 1) * 2 ^ (legacyCSizeMult csd + 2) * 2 ^ (csd[5].toNat % 16) / 512 ∧
    (legacySectors csd).toNat ≤ 2 ^ 27

/-- R234, R235, R236, R262: with the CSD block's trailing exchange the geometry is parsed by the CSD version (0b01 v2.0, every other value
legacy), address_unit and geom_valid are kept, and CMD16 is sent in state BlockLenSet. -/
def Obligations.CsdBlockIsParsed : Prop :=
  ∀ s : State, s.cfg.valid = true → s.env.host = [] → s.seq.pos = .recvReleaseClock → s.seq.form = .cmd9 →
    ∃ t, step s = .next t ∧ t.initState = .blockLenSet ∧ t.seq.pos = .cmdIssue ∧ t.seq.form = .cmd16 ∧
      t.cmd.frame.toList = [0x50, 0, 0, 0x02, 0, s.cfg.crcPlaceholder] ∧ t.csd = s.csd ∧
      t.trace = s.trace ++ exchanges s.bus.csAsserted 0 [0xFF] s ∧ t.op = s.op ∧ t.bus = s.bus ∧ t.mem = s.mem ∧
      (s.csd[0].toNat / 64 = 1 →
        t.geom = { s.geom with sectorCount := v2Sectors s.csd, cardType := .highCapacity }) ∧
      (s.csd[0].toNat / 64 ≠ 1 →
        t.geom = { s.geom with sectorCount := legacySectors s.csd, cardType := .standardCapacity })

/-! ## Data transfer (42_data_transfer) -/

/-- R270, R404: the protocol address is (lat_blk * factor) mod 2^32, the factor 512 for Byte and 1 for Block. R271: a transfer has
lat_len / 512 blocks. R93: byte i of the buffer is at (lat_addr + i) mod 2^32; the framer's next data byte is byte 512*j + k, with j
= blocks_done (log 16, DEDUCED). -/
def Obligations.ProtocolAddressWraps : Prop :=
  ∀ s : State,
    (protocolAddress s).toNat = s.op.latBlk.toNat * (if s.geom.addressUnit = .byte then 512 else 1) % 2 ^ 32 ∧
    blockCount s = s.op.latLen.toNat / 512 ∧
    (∀ i, (bufferAddress i s).toNat = (s.op.latAddr.toNat + i) % 2 ^ 32) ∧
    blockByteAddress s = bufferAddress (512 * s.op.blocksDone.toNat + s.seq.k) s

/-- R272 to R275, R341: a transfer command's Timeout raises BusTimeout and any R1 but 0x00 IllegalCommand; after R1 0x00 CMD17 and
CMD18 receive a block, CMD24 and CMD25 send their first block with 0xFE and 0xFC, and CMD12 ends the READ with OK. R234: after
CMD9's R1 0x00 the CSD block is received; Timeout, or any other R1, takes the attempt to Fail (R220). -/
def Obligations.TransferCommandOutcome : Prop :=
  ∀ (s : State) (r : Option Byte), s.cfg.valid = true → s.env.host = [] → returns r s →
    s.seq.form ∈ [Form.cmd9, .cmd17, .cmd18, .cmd12, .cmd24, .cmd25] → s.bus.csAsserted = false →
    ∃ t, step s = .next t ∧ t.op = s.op ∧ t.bus = s.bus ∧ t.geom = s.geom ∧ t.csd = s.csd ∧ t.mem = s.mem ∧
      (s.seq.form = .cmd9 → r ≠ some 0x00 → hasFailed s t) ∧
      (s.seq.form ≠ .cmd9 → r = none → t.seq.pos = .finish ∧ t.seq.code = .busTimeout) ∧
      (s.seq.form ≠ .cmd9 → r ≠ none → r ≠ some 0x00 → t.seq.pos = .finish ∧ t.seq.code = .illegalCommand) ∧
      (r = some 0x00 →
        (s.seq.form ∈ [Form.cmd9, .cmd17, .cmd18] → t.seq.pos = .recvAssert) ∧
        (s.seq.form = .cmd24 → t.seq.pos = .txAssert ∧ t.seq.tok = 0xFE) ∧
        (s.seq.form = .cmd25 → t.seq.pos = .txAssert ∧ t.seq.tok = 0xFC) ∧
        (s.seq.form = .cmd12 → t.seq.pos = .finish ∧ t.seq.code = .ok))

/-- R262, R264, R267: a block, in or out, and the stop token begin with CsAssert; the token poll or the token comes next. R261,
R264, R267, R275: each token is one exchange, received or sent; the data bytes come next, or after 0xFD one filler byte 0xFF and
BusyWait. R264, R93, R98: after a sent token byte i of block j, read from host memory at B(512*j + i) just before it is sent, goes
out on MOSI for i = 0 to 511 in order, then 0xFF 0xFF, and the data response comes next. That j is blocks_done is the model's
reading (log 16, DEDUCED). -/
def Obligations.TokensComplete : Prop :=
  ∀ s : State,
    (∃ t, exec .tokenStartRx s = .next t ∧ t.traceRev = .x s.bus.csAsserted 0xFF 0xFE :: s.traceRev ∧
      t.seq = { s.seq with pos := .recvData, k := 0 }) ∧
    (∃ t, exec .tokenStartTx s = .next t ∧ t.traceRev = .x s.bus.csAsserted 0xFE (nextMiso s) :: s.traceRev ∧
      t.seq = { s.seq with pos := .sendFetch, k := 0 }) ∧
    (∃ t, exec .tokenMultiWrite s = .next t ∧ t.traceRev = .x s.bus.csAsserted 0xFC (nextMiso s) :: s.traceRev ∧
      t.seq = { s.seq with pos := .sendFetch, k := 0 }) ∧
    (∃ t, exec .tokenStopTran s = .next t ∧ t.traceRev = .x s.bus.csAsserted 0xFD (nextMiso s) :: s.traceRev ∧
      t.seq = { s.seq with pos := .stopFiller }) ∧
    (∃ t, exec .busy s = .next t ∧ t.traceRev = .x s.bus.csAsserted 0xFF 0x00 :: s.traceRev ∧
      t.seq = { s.seq with pos := .busySleep }) ∧
    (s.cfg.valid = true → framerAlone s = true → s.seq.pos = .sendFetch → s.seq.k = 0 →
      ∃ t, runSteps 1026 s = .next t ∧ t.seq.pos = .sendResponse ∧
        t.trace = s.trace ++
          (List.range 512).flatMap (fun i =>
            let a := bufferAddress (512 * s.op.blocksDone.toNat + i) s
            [.mr a (memByte a s), .x s.bus.csAsserted (memByte a s) (misoAt i s)]) ++
          exchanges s.bus.csAsserted 512 [0xFF, 0xFF] s ∧
        t.env.drawn = s.env.drawn + 514 ∧ t.mem = s.mem ∧ t.op = s.op ∧ t.bus = s.bus) ∧
    (s.cfg.valid = true → s.env.host = [] → (s.seq.pos = .recvAssert ∨ s.seq.pos = .txAssert) →
      ∃ t, step s = .next t ∧ t.trace = s.trace ++ (if s.bus.csAsserted then [] else [.cs true]) ∧
        t.bus = { s.bus with csAsserted := true } ∧
        (s.seq.pos = .recvAssert → t.seq = { s.seq with pos := .recvToken, k := 0 }) ∧
        (s.seq.pos = .txAssert → t.seq = { s.seq with pos := .txToken }) ∧
        t.mem = s.mem ∧ t.op = s.op ∧ t.env = s.env) ∧
    (s.cfg.valid = true → s.env.host = [] → s.seq.pos = .stopFiller →
      ∃ t, step s = .next t ∧ t.trace = s.trace ++ exchanges s.bus.csAsserted 0 [0xFF] s ∧
        t.seq = { s.seq with pos := .busyPoll, k := 0 } ∧ t.mem = s.mem ∧ t.op = s.op ∧ t.bus = s.bus)

/-- The frame of the byte rows: beyond one exchange and the position, R1 may write last_idx, last_r1, last_to, last_valid and the
init state, an accepted response blocks_done and PROG_IP; every other register, CS, and every byte of host memory are
kept. -/
def Obligations.ByteRowsFrame : Prop :=
  ∀ (i : Instr) (s t : State), channelOf i ∈ [Channel.r1Poll, .tokenPoll, .tokenOut, .dataResponse, .busyPoll] →
    exec i s = .next t →
    t.cfg = s.cfg ∧ t.host = s.host ∧ t.geom = s.geom ∧ t.bus = s.bus ∧ t.csd = s.csd ∧ t.cmd.cap = s.cmd.cap ∧
    t.cmd.frame = s.cmd.frame ∧ t.mem = s.mem ∧ (∀ a, memByte a t = memByte a s) ∧ t.env.host = s.env.host ∧ t.env.drawn = s.env.drawn + 1 ∧
    t.op = { s.op with blocksDone := t.op.blocksDone, progIp := t.op.progIp } ∧
    (channelOf i ≠ .dataResponse → t.op = s.op) ∧
    (channelOf i ≠ .r1Poll → t.cmd = s.cmd ∧ t.initState = s.initState)

/-- R264, R274: an accepted single-block write, whatever bits [7:5] of the response, counts its block and waits while the card
is busy. R274 writes blocks_done <- 1; that the model writes blocks_done + 1 is its reading (log 16, DEDUCED), the same value
where blocks_done is 0, as it is from acceptance on (R320), and unsafe in states that no run reaches. -/
def Obligations.SingleWriteAccepted : Prop :=
  ∀ (hi : BitVec 3) (s : State), s.seq.form = .cmd24 →
    ∃ t, exec (.dataAccepted hi) s = .next t ∧
      t.traceRev = .x s.bus.csAsserted 0xFF (hi ++ (5 : BitVec 5)) :: s.traceRev ∧
      t.op = { s.op with blocksDone := s.op.blocksDone + 1 } ∧ t.seq.pos = .busyPoll ∧ t.seq.k = 0

/-- R264, R275, R276: an accepted chunk of a multi-block write. With MULTI_WRITE_BLOCK_BUSY it waits while busy. Without, it is
counted, sets PROG_IP when its number is a multiple of PROGRESS_INTERVAL, and the next chunk, or after the last the stop token,
follows. That j, the chunk's index, is blocks_done itself is the model's reading (log 16, DEDUCED). -/
def Obligations.ChunkAccepted : Prop :=
  ∀ (hi : BitVec 3) (s : State), s.seq.form = .cmd25 → s.op.blocksDone.toNat < blockCount s →
    ∃ t, exec (.dataAccepted hi) s = .next t ∧
      t.traceRev = .x s.bus.csAsserted 0xFF (hi ++ (5 : BitVec 5)) :: s.traceRev ∧
      (s.cfg.multiWriteBlockBusy = true → t.op = s.op ∧ t.seq.pos = .busyPoll ∧ t.seq.k = 0) ∧
      (s.cfg.multiWriteBlockBusy = false →
        t.op = { s.op with
          blocksDone := s.op.blocksDone + 1
          progIp := s.op.progIp || decide ((s.op.blocksDone.toNat + 1) % s.cfg.progressInterval.toNat = 0) } ∧
        t.seq.pos = .txAssert ∧ t.seq.tok = (if s.op.blocksDone.toNat + 1 < blockCount s then 0xFC else 0xFD))

/-- R264, R352: a rejected data response raises DataTokenError: with CS asserted Abort comes next. -/
def Obligations.RejectedResponseRaises : Prop :=
  ∀ (d : Byte) (s : State), WellFormed (.dataRejected d) = true →
    ∃ t, exec (.dataRejected d) s = .next t ∧ t.traceRev = .x s.bus.csAsserted 0xFF d :: s.traceRev ∧
      t.seq = { s.seq with code := .dataTokenError, pos := if s.bus.csAsserted then .abortRelease else .finish } ∧
      t.op = s.op

/-- R261: with the token on poll p within the budget, WaitToken finds it after p exchanges of 0xFF, with
Sleep(TOKEN_POLL_SLEEP_MS) after each but the last. -/
def Obligations.WaitTokenFinds : Prop :=
  ∀ (s : State) (before after : List Byte), s.cfg.valid = true → s.env.host = [] → s.seq.pos = .recvToken → s.seq.k = 0 →
    s.env.miso = before ++ 0xFE :: after → (∀ x ∈ before, x ≠ 0xFE) → before.length < s.cfg.tokenPollBudget.toNat →
    ∃ t, runSteps (2 * before.length + 1) s = .next t ∧ t.seq.pos = .recvData ∧ t.seq.k = 0 ∧
      t.env.drawn = s.env.drawn + before.length + 1 ∧ t.env.miso = after ∧
      t.trace = s.trace ++ pollEvents s.cfg.tokenPollSleepMs before.length s ++
        exchanges s.bus.csAsserted before.length [0xFF] s ∧
      t.mem = s.mem ∧ t.op = s.op ∧ t.bus = s.bus

/-- R261, R272, R341: in a READ, a budget of polls without 0xFE ends in DataTokenError, with no byte of the buffer written. R234,
R220: in CsdRead it takes the attempt to Fail, with CSD and the geometry as they were. In both, each poll sends 0xFF and is
followed by Sleep(TOKEN_POLL_SLEEP_MS), and Abort's release and trailing 0xFF follow (R176). -/
def Obligations.WaitTokenTimesOut : Prop :=
  ∀ (s : State) (polls : Nat), s.cfg.valid = true → s.env.host = [] → s.seq.pos = .recvToken → s.seq.k = 0 →
    polls = s.cfg.tokenPollBudget.toNat → (∀ k, k < polls → misoAt k s ≠ 0xFE) → s.bus.csAsserted = true →
    (s.seq.form ≠ .cmd9 → s.op.latOp ≠ 0x1 →
      ∃ t, runSteps (2 * polls + 3) s = .next t ∧ hasCompleted .dataTokenError t ∧ t.bus.csAsserted = false ∧
        t.env.drawn = s.env.drawn + polls + 1 ∧ t.mem = s.mem ∧ t.op.blocksDone = s.op.blocksDone ∧
        t.initState = s.initState ∧
        t.trace = s.trace ++ pollEvents s.cfg.tokenPollSleepMs polls s ++ .cs false :: exchanges false polls [0xFF] s) ∧
    (s.seq.form = .cmd9 → s.op.latOp = 0x1 →
      ∃ t, runSteps (2 * polls + 2) s = .next t ∧ hasFailed s t ∧ t.op = s.op ∧ t.bus.csAsserted = false ∧
        t.env.drawn = s.env.drawn + polls + 1 ∧ t.csd = s.csd ∧ t.geom = s.geom ∧ t.mem = s.mem ∧
        t.trace = s.trace ++ pollEvents s.cfg.tokenPollSleepMs polls s ++ .cs false :: exchanges false polls [0xFF] s)

/-- R266: BusyWait ends on the first byte other than 0x00, whatever its value. After a single block or the stop token (R274, R267)
CS is released and the WRITE completes with OK; after a chunk with MULTI_WRITE_BLOCK_BUSY (R275, R276) the chunk is counted, with
its progress event, and the next chunk, or after the last the stop token, follows. R266, R274, R275, R341: a budget of busy
bytes ends in BusTimeout, after any of the three. Each poll sends 0xFF, and Sleep(BUSY_POLL_SLEEP_MS) follows each busy byte; the
final release is CsDeassert and one 0xFF (R267, R274), as is Abort's (R176). That blocks_done counts up by one, where R275 writes j + 1, is the
model's reading (log 16, DEDUCED). -/
def Obligations.BusyWaitEnds : Prop :=
  ∀ s : State, s.cfg.valid = true → s.env.host = [] → s.seq.pos = .busyPoll → s.seq.k = 0 →
    (∀ n, n < s.cfg.busyPollBudget.toNat → (∀ k, k < n → misoAt k s = 0x00) → misoAt n s ≠ 0x00 →
      ∃ t, runSteps (2 * n + 1) s = .next t ∧ t.env.drawn = s.env.drawn + n + 1 ∧ t.bus = s.bus ∧ t.mem = s.mem ∧
        t.trace = s.trace ++ pollEvents s.cfg.busyPollSleepMs n s ++ exchanges s.bus.csAsserted n [0xFF] s ∧
        (s.seq.tok ≠ 0xFC → t.seq.pos = .endRelease ∧ t.op = s.op ∧
          ∃ u, runSteps 3 t = .next u ∧ hasCompleted .ok u ∧ u.bus.csAsserted = false ∧ u.mem = s.mem ∧
            u.op.blocksDone = s.op.blocksDone ∧
            u.trace = t.trace ++ (if s.bus.csAsserted then [.cs false] else []) ++ exchanges false (n + 1) [0xFF] s) ∧
        (s.seq.tok = 0xFC → s.op.blocksDone.toNat < blockCount s →
          t.op = { s.op with
            blocksDone := s.op.blocksDone + 1
            progIp := s.op.progIp || decide ((s.op.blocksDone.toNat + 1) % s.cfg.progressInterval.toNat = 0) } ∧
          t.seq.pos = .txAssert ∧ t.seq.tok = (if s.op.blocksDone.toNat + 1 < blockCount s then 0xFC else 0xFD))) ∧
    ((∀ k, k < s.cfg.busyPollBudget.toNat → misoAt k s = 0x00) → s.bus.csAsserted = true → s.op.latOp ≠ 0x1 →
      ∃ t, runSteps (2 * s.cfg.busyPollBudget.toNat + 3) s = .next t ∧ hasCompleted .busTimeout t ∧
        t.bus.csAsserted = false ∧ t.env.drawn = s.env.drawn + s.cfg.busyPollBudget.toNat + 1 ∧
        t.trace = s.trace ++ pollEvents s.cfg.busyPollSleepMs s.cfg.busyPollBudget.toNat s ++
          .cs false :: exchanges false s.cfg.busyPollBudget.toNat [0xFF] s ∧
        t.op.blocksDone = s.op.blocksDone ∧ t.mem = s.mem)

/-- R262, R98, R93: a received sector lands in host memory: byte i of block j at B(512*j + i), in the order received, each as it
arrives, and no other byte changes. R234, R37: the 16 bytes of the CSD block land in CSD[0..15] in the order received. R262: two
CRC bytes and the release follow. R272, R273, R276: after the release a single block is counted and the READ completes with OK;
a block of a multi-block READ is counted, with its progress event, and the next block, or after the last CMD12, follows. That
blocks_done counts up by one, where R272 writes 1 and R273 j + 1, is the model's reading (log 16, DEDUCED). -/
def Obligations.ReceivedBlockIsStored : Prop :=
  ∀ s : State, s.cfg.valid = true → framerAlone s = true →
    (s.seq.pos = .recvData → s.seq.k = 0 → s.seq.form ≠ .cmd9 → Memory.wf s.mem = true →
      ∃ t, runSteps 1024 s = .next t ∧ t.seq.pos = .recvCrc ∧ t.seq.k = 0 ∧ t.env.drawn = s.env.drawn + 512 ∧
        (∀ i, i < 512 → memByte (bufferAddress (512 * s.op.blocksDone.toNat + i) s) t = misoAt i s) ∧
        (∀ a, (∀ i, i < 512 → a ≠ bufferAddress (512 * s.op.blocksDone.toNat + i) s) → memByte a t = memByte a s) ∧
        t.trace = s.trace ++ (List.range 512).flatMap (fun i =>
          [.x s.bus.csAsserted 0xFF (misoAt i s),
            .mw (bufferAddress (512 * s.op.blocksDone.toNat + i) s) (misoAt i s)]) ∧
        t.op = s.op ∧ t.bus = s.bus) ∧
    (s.seq.pos = .recvData → s.seq.k = 0 → s.seq.form = .cmd9 →
      ∃ t, runSteps 16 s = .next t ∧ t.seq.pos = .recvCrc ∧ t.seq.k = 0 ∧ t.env.drawn = s.env.drawn + 16 ∧
        t.csd.toList = (List.range 16).map (fun k => misoAt k s) ∧ t.mem = s.mem ∧
        t.trace = s.trace ++ exchanges s.bus.csAsserted 0 (List.replicate 16 0xFF) s ∧
        t.op = s.op ∧ t.bus = s.bus ∧ t.geom = s.geom) ∧
    (s.seq.pos = .recvCrc → s.seq.k = 0 → s.bus.csAsserted = true →
      ∃ t, runSteps 3 s = .next t ∧ t.seq.pos = .recvReleaseClock ∧ t.bus = { s.bus with csAsserted := false } ∧
        t.trace = s.trace ++ exchanges true 0 [0xFF, 0xFF] s ++ [.cs false] ∧ t.mem = s.mem ∧ t.csd = s.csd ∧
        t.op = s.op) ∧
    (s.seq.pos = .recvReleaseClock → s.seq.form = .cmd17 →
      ∃ t, runSteps 2 s = .next t ∧ hasCompleted .ok t ∧ t.op.blocksDone = s.op.blocksDone + 1 ∧
        t.op.progIp = s.op.progIp ∧ t.trace = s.trace ++ exchanges s.bus.csAsserted 0 [0xFF] s ∧ t.mem = s.mem) ∧
    (s.seq.pos = .recvReleaseClock → s.seq.form = .cmd18 → s.op.blocksDone.toNat < blockCount s →
      ∃ t, step s = .next t ∧
        t.op = { s.op with
          blocksDone := s.op.blocksDone + 1
          progIp := s.op.progIp || decide ((s.op.blocksDone.toNat + 1) % s.cfg.progressInterval.toNat = 0) } ∧
        t.trace = s.trace ++ exchanges s.bus.csAsserted 0 [0xFF] s ∧ t.mem = s.mem ∧
        (s.op.blocksDone.toNat + 1 < blockCount s → t.seq.pos = .recvAssert) ∧
        (s.op.blocksDone.toNat + 1 = blockCount s →
          t.seq.pos = .cmdIssue ∧ t.seq.form = .cmd12 ∧
          t.cmd.frame.toList = [0x4C, 0, 0, 0, 0, s.cfg.crcPlaceholder]))

/-- R27, U2: where host memory refuses the access, the framer has no step. The byte is one of block blocks_done (log 16, DEDUCED). -/
def Obligations.RefusedMemoryStopsTheFramer : Prop :=
  ∀ s : State, s.cfg.valid = true → s.env.host = [] → (s.seq.pos = .recvStore ∨ s.seq.pos = .sendFetch) →
    memAdmits (blockByteAddress s) s = false → step s = .fault .hostMemoryRefused

/-! ## Whole-machine rules -/

/-- The invariant holds at reset: idle, CS deasserted, not Ready, no attempt, no pending block. -/
def Obligations.ResetMeetsInv : Prop :=
  Inv State.reset = true ∧ csHeld State.reset = true ∧ Memory.wf State.reset.mem = true

/-- R177, R211, R322, R210, R272 to R275: every step keeps the invariant, from every state that has it. R172, R176, R262, R264, R266,
R267: with it, every step keeps CS asserted from CsAssert to the release: a command's frame, poll and trailing bytes, a block's or
a stop token's exchanges, the busy wait, and Abort. -/
def Obligations.StepKeepsInv : Prop :=
  ∀ s t : State, Inv s = true → step s = .next t → Inv t = true ∧ (csHeld s = true → csHeld t = true)

/-- Every step keeps host memory in its canonical form. -/
def Obligations.StepKeepsMemoryCanonical : Prop :=
  ∀ s t : State, Memory.wf s.mem = true → step s = .next t → Memory.wf t.mem = true

/-- From a state with the invariant, a valid configuration and a host memory that takes every access, the framer always has a
step: no operation of the spec is refused or faults. -/
def Obligations.FramerNeverStops : Prop :=
  ∀ s : State, Inv s = true → s.cfg.valid = true → framerAlone s = true → ∃ t, step s = .next t

/-- R31: each operation ends in a bounded number of steps, whatever the card answers: the bound depends on the parameters and the
block count alone. DONE is then set and BUSY clear, and CS is deasserted (R177). -/
def Obligations.EveryOperationEnds : Prop :=
  ∃ bound : Config.Params → Nat → Nat,
    ∀ s : State, Inv s = true → s.cfg.valid = true → framerAlone s = true → s.op.busy = true →
      ∃ k t, k ≤ bound s.cfg (blockCount s) ∧ runSteps k s = .next t ∧
        t.op.busy = false ∧ t.op.done = true ∧ t.bus.csAsserted = false

/-- R93, R272, R273: a step of the block writes host memory only inside the buffer of a running READ. -/
def Obligations.MemoryWrittenOnlyInReadBuffer : Prop :=
  ∀ (s t : State) (a : Word), Inv s = true → Memory.wf s.mem = true → (∀ x v rest, s.env.host ≠ .memWrite x v :: rest) →
    step s = .next t → ¬(s.op.busy = true ∧ s.op.latOp = 0x2 ∧ inBuffer a s) → memByte a t = memByte a s

/-- R33, R34: outside reset, init_state and the geometry change only in an INIT, accepted in this step or running, its completing
step included. -/
def Obligations.OnlyInitChangesCardView : Prop :=
  ∀ s t : State, Inv s = true → (∀ rest, s.env.host ≠ .reset :: rest) → step s = .next t →
    (t.initState = s.initState ∧ t.geom = s.geom) ∨ ((t.op.busy = true ∨ s.op.busy = true) ∧ t.op.latOp = 0x1)

/-- R26, R28: outside reset, a step adds at most one event to TRACE and changes no earlier one; CS changes only with its CS
event, and the clock only with its CLK event. -/
def Obligations.TraceGrowsByOneEvent : Prop :=
  ∀ s t : State, (∀ rest, s.env.host ≠ .reset :: rest) → step s = .next t →
    (t.traceRev = s.traceRev ∧ t.bus = s.bus) ∨
    (∃ e, t.traceRev = e :: s.traceRev ∧
      (t.bus.csAsserted ≠ s.bus.csAsserted → e = .cs t.bus.csAsserted) ∧
      (t.bus.clockHz ≠ s.bus.clockHz → ∃ hz, e = .clk hz ∧ t.bus.clockHz = some hz))
end

