-- ==== Sys2Proof/Laws/Memory.lean ====
section
/-! SUPPORT. The laws of host memory: a read after a write, and the canonical form is kept. -/

namespace Sys2Proof.Laws
open Sys2Proof.Machine

theorem memoryRead_write_same (m : List Host.Cell) (a : Nat) (v : Byte) (lo : Nat) (h : memoryWfFrom lo m = true) :
    memoryRead (memoryWrite m a v) a = v := by
  have absent : ∀ (m : List Host.Cell) (lo : Nat), memoryWfFrom lo m = true → a < lo → memoryRead m a = memoryDefault := by
    intro m
    induction m with
    | nil => intros; rfl
    | cons c rest ih =>
      obtain ⟨b, w⟩ := c
      intro lo h ha
      simp only [memoryWfFrom, Bool.and_eq_true, decide_eq_true_eq] at h
      have hne : a ≠ b := by omega
      simp only [memoryRead, hne, if_false]
      exact ih (b + 1) h.2 (by omega)
  induction m generalizing lo with
  | nil =>
    by_cases hv : v = memoryDefault <;> simp [memoryWrite, memoryRead, hv]
  | cons c rest ih =>
    obtain ⟨b, w⟩ := c
    have h' := h
    simp only [memoryWfFrom, Bool.and_eq_true, decide_eq_true_eq] at h
    rcases Nat.lt_trichotomy a b with hab | hab | hab
    · by_cases hv : v = memoryDefault
      · simp only [memoryWrite, hab, if_true, hv]
        have hne : a ≠ b := by omega
        simp only [memoryRead, hne, if_false]
        exact absent rest (b + 1) h.2 (by omega)
      · simp [memoryWrite, memoryRead, hab, hv]
    · subst hab
      by_cases hv : v = memoryDefault
      · simp only [memoryWrite, lt_irrefl, if_false, if_true, hv]
        exact absent rest (a + 1) h.2 (by omega)
      · simp [memoryWrite, memoryRead, hv]
    · have h1 : ¬ a < b := by omega
      have h2 : a ≠ b := by omega
      simp only [memoryWrite, h1, h2, if_false, memoryRead]
      exact ih (b + 1) h.2

theorem memoryRead_write_other (m : List Host.Cell) (a a' : Nat) (v : Byte) (lo : Nat)
    (h : memoryWfFrom lo m = true) (hne : a' ≠ a) : memoryRead (memoryWrite m a v) a' = memoryRead m a' := by
  induction m generalizing lo with
  | nil => by_cases hv : v = memoryDefault <;> simp [memoryWrite, memoryRead, hv, hne]
  | cons c rest ih =>
    obtain ⟨b, w⟩ := c
    simp only [memoryWfFrom, Bool.and_eq_true, decide_eq_true_eq] at h
    rcases Nat.lt_trichotomy a b with hab | hab | hab
    · by_cases hv : v = memoryDefault <;> simp [memoryWrite, memoryRead, hab, hv, hne]
    · subst hab
      by_cases hv : v = memoryDefault <;> simp [memoryWrite, memoryRead, hv, hne]
    · have h1 : ¬ a < b := by omega
      have h2 : a ≠ b := by omega
      simp only [memoryWrite, h1, h2, if_false, memoryRead]
      rw [ih (b + 1) h.2]

theorem memoryWfFrom_write (m : List Host.Cell) (a : Nat) (v : Byte) (lo : Nat) (h : memoryWfFrom lo m = true)
    (ha : lo ≤ a) : memoryWfFrom lo (memoryWrite m a v) = true := by
  have weaken : ∀ (m : List Host.Cell) (lo lo' : Nat), lo' ≤ lo → memoryWfFrom lo m = true → memoryWfFrom lo' m = true := by
    intro m lo lo' hle h
    cases m with
    | nil => rfl
    | cons c rest =>
      simp only [memoryWfFrom, Bool.and_eq_true, decide_eq_true_eq] at h ⊢
      exact ⟨⟨by omega, h.1.2⟩, h.2⟩
  induction m generalizing lo with
  | nil =>
    by_cases hv : v = memoryDefault <;> simp [memoryWrite, memoryWfFrom, hv, ha]
  | cons c rest ih =>
    obtain ⟨b, w⟩ := c
    have h' := h
    simp only [memoryWfFrom, Bool.and_eq_true, decide_eq_true_eq] at h
    rcases Nat.lt_trichotomy a b with hab | hab | hab
    · by_cases hv : v = memoryDefault
      · simp only [memoryWrite, hab, if_true, hv]; exact h'
      · simp only [memoryWrite, hab, if_true, hv, if_false, memoryWfFrom, Bool.and_eq_true, decide_eq_true_eq, bne_iff_ne,
          ne_eq, not_false_eq_true, and_true]
        exact ⟨ha, ⟨by omega, by simpa using h.1.2⟩, h.2⟩
    · subst hab
      by_cases hv : v = memoryDefault
      · simp only [memoryWrite, lt_irrefl, if_false, if_true, hv]
        exact weaken rest (a + 1) lo (by omega) h.2
      · simp only [memoryWrite, lt_irrefl, if_false, if_true, hv, memoryWfFrom, Bool.and_eq_true, decide_eq_true_eq,
          bne_iff_ne, ne_eq, not_false_eq_true, and_true]
        exact ⟨ha, h.2⟩
    · have h1 : ¬ a < b := by omega
      have h2 : a ≠ b := by omega
      simp only [memoryWrite, h1, h2, if_false, memoryWfFrom, Bool.and_eq_true, decide_eq_true_eq]
      exact ⟨h.1, ih (b + 1) h.2 (by omega)⟩

/-- A byte just written reads as written. -/
theorem memByte_memWrite_same (a : Word) (v : Byte) (s : State) (h : Memory.wf s.mem = true) :
    memByte a (memWrite a v s) = v := memoryRead_write_same _ _ _ 0 h

/-- Every other byte reads as before. -/
theorem memByte_memWrite_other (a a' : Word) (v : Byte) (s : State) (h : Memory.wf s.mem = true) (hne : a' ≠ a) :
    memByte a' (memWrite a v s) = memByte a' s :=
  memoryRead_write_other _ _ _ _ 0 h fun e => hne (BitVec.eq_of_toNat_eq e)

/-- Every write keeps the canonical form. -/
theorem memory_wf_write (m : List Host.Cell) (a : Nat) (v : Byte) (h : Memory.wf m = true) :
    Memory.wf (memoryWrite m a v) = true := memoryWfFrom_write _ _ _ 0 h (Nat.zero_le _)

/-- Reset memory has the canonical form. -/
theorem memory_wf_reset : Memory.wf State.reset.mem = true := rfl

end Sys2Proof.Laws
end

