-- ==== Sys2Proof/Laws/State.lean ====
section
/-! SUPPORT. One lemma per field per update, for the named operations on State: no later proof unfolds a record update. -/

namespace Sys2Proof.Laws
open Sys2Proof.Machine

variable (s : State)

/-! ### goto -/

@[simp] theorem goto_cfg (p : Pos) : (goto p s).cfg = s.cfg := rfl
@[simp] theorem goto_host (p : Pos) : (goto p s).host = s.host := rfl
@[simp] theorem goto_op (p : Pos) : (goto p s).op = s.op := rfl
@[simp] theorem goto_initState (p : Pos) : (goto p s).initState = s.initState := rfl
@[simp] theorem goto_geom (p : Pos) : (goto p s).geom = s.geom := rfl
@[simp] theorem goto_bus (p : Pos) : (goto p s).bus = s.bus := rfl
@[simp] theorem goto_cmd (p : Pos) : (goto p s).cmd = s.cmd := rfl
@[simp] theorem goto_csd (p : Pos) : (goto p s).csd = s.csd := rfl
@[simp] theorem goto_traceRev (p : Pos) : (goto p s).traceRev = s.traceRev := rfl
@[simp] theorem goto_mem (p : Pos) : (goto p s).mem = s.mem := rfl
@[simp] theorem goto_env (p : Pos) : (goto p s).env = s.env := rfl
@[simp] theorem goto_seq (p : Pos) : (goto p s).seq = { s.seq with pos := p } := rfl

/-! ### enter -/

@[simp] theorem enter_cfg (p : Pos) : (enter p s).cfg = s.cfg := rfl
@[simp] theorem enter_host (p : Pos) : (enter p s).host = s.host := rfl
@[simp] theorem enter_op (p : Pos) : (enter p s).op = s.op := rfl
@[simp] theorem enter_initState (p : Pos) : (enter p s).initState = s.initState := rfl
@[simp] theorem enter_geom (p : Pos) : (enter p s).geom = s.geom := rfl
@[simp] theorem enter_bus (p : Pos) : (enter p s).bus = s.bus := rfl
@[simp] theorem enter_cmd (p : Pos) : (enter p s).cmd = s.cmd := rfl
@[simp] theorem enter_csd (p : Pos) : (enter p s).csd = s.csd := rfl
@[simp] theorem enter_traceRev (p : Pos) : (enter p s).traceRev = s.traceRev := rfl
@[simp] theorem enter_mem (p : Pos) : (enter p s).mem = s.mem := rfl
@[simp] theorem enter_env (p : Pos) : (enter p s).env = s.env := rfl
@[simp] theorem enter_seq (p : Pos) : (enter p s).seq = { s.seq with pos := p, k := 0 } := rfl

/-! ### again -/

@[simp] theorem again_cfg (p : Pos) : (again p s).cfg = s.cfg := rfl
@[simp] theorem again_host (p : Pos) : (again p s).host = s.host := rfl
@[simp] theorem again_op (p : Pos) : (again p s).op = s.op := rfl
@[simp] theorem again_initState (p : Pos) : (again p s).initState = s.initState := rfl
@[simp] theorem again_geom (p : Pos) : (again p s).geom = s.geom := rfl
@[simp] theorem again_bus (p : Pos) : (again p s).bus = s.bus := rfl
@[simp] theorem again_cmd (p : Pos) : (again p s).cmd = s.cmd := rfl
@[simp] theorem again_csd (p : Pos) : (again p s).csd = s.csd := rfl
@[simp] theorem again_traceRev (p : Pos) : (again p s).traceRev = s.traceRev := rfl
@[simp] theorem again_mem (p : Pos) : (again p s).mem = s.mem := rfl
@[simp] theorem again_env (p : Pos) : (again p s).env = s.env := rfl
@[simp] theorem again_seq (p : Pos) : (again p s).seq = { s.seq with pos := p, k := s.seq.k + 1 } := rfl

/-! ### exchange -/

@[simp] theorem exchange_cfg (m b : Byte) : (exchange m b s).cfg = s.cfg := rfl
@[simp] theorem exchange_host (m b : Byte) : (exchange m b s).host = s.host := rfl
@[simp] theorem exchange_op (m b : Byte) : (exchange m b s).op = s.op := rfl
@[simp] theorem exchange_initState (m b : Byte) : (exchange m b s).initState = s.initState := rfl
@[simp] theorem exchange_geom (m b : Byte) : (exchange m b s).geom = s.geom := rfl
@[simp] theorem exchange_bus (m b : Byte) : (exchange m b s).bus = s.bus := rfl
@[simp] theorem exchange_cmd (m b : Byte) : (exchange m b s).cmd = s.cmd := rfl
@[simp] theorem exchange_csd (m b : Byte) : (exchange m b s).csd = s.csd := rfl
@[simp] theorem exchange_seq (m b : Byte) : (exchange m b s).seq = s.seq := rfl
@[simp] theorem exchange_mem (m b : Byte) : (exchange m b s).mem = s.mem := rfl
@[simp] theorem exchange_traceRev (m b : Byte) : (exchange m b s).traceRev = .x s.bus.csAsserted m b :: s.traceRev := rfl
@[simp] theorem exchange_env (m b : Byte) : (exchange m b s).env = { s.env with miso := s.env.miso.tail, drawn := s.env.drawn + 1 } := rfl

/-! ### xfer -/

@[simp] theorem xfer_cfg (m : Byte) : (xfer m s).cfg = s.cfg := rfl
@[simp] theorem xfer_host (m : Byte) : (xfer m s).host = s.host := rfl
@[simp] theorem xfer_op (m : Byte) : (xfer m s).op = s.op := rfl
@[simp] theorem xfer_initState (m : Byte) : (xfer m s).initState = s.initState := rfl
@[simp] theorem xfer_geom (m : Byte) : (xfer m s).geom = s.geom := rfl
@[simp] theorem xfer_bus (m : Byte) : (xfer m s).bus = s.bus := rfl
@[simp] theorem xfer_cmd (m : Byte) : (xfer m s).cmd = s.cmd := rfl
@[simp] theorem xfer_csd (m : Byte) : (xfer m s).csd = s.csd := rfl
@[simp] theorem xfer_seq (m : Byte) : (xfer m s).seq = s.seq := rfl
@[simp] theorem xfer_mem (m : Byte) : (xfer m s).mem = s.mem := rfl
@[simp] theorem xfer_traceRev (m : Byte) : (xfer m s).traceRev = .x s.bus.csAsserted m (nextMiso s) :: s.traceRev := rfl
@[simp] theorem xfer_env (m : Byte) : (xfer m s).env = { s.env with miso := s.env.miso.tail, drawn := s.env.drawn + 1 } := rfl

/-! ### csAssert -/

@[simp] theorem csAssert_cfg : (csAssert s).cfg = s.cfg := rfl
@[simp] theorem csAssert_host : (csAssert s).host = s.host := rfl
@[simp] theorem csAssert_op : (csAssert s).op = s.op := rfl
@[simp] theorem csAssert_initState : (csAssert s).initState = s.initState := rfl
@[simp] theorem csAssert_geom : (csAssert s).geom = s.geom := rfl
@[simp] theorem csAssert_cmd : (csAssert s).cmd = s.cmd := rfl
@[simp] theorem csAssert_csd : (csAssert s).csd = s.csd := rfl
@[simp] theorem csAssert_seq : (csAssert s).seq = s.seq := rfl
@[simp] theorem csAssert_mem : (csAssert s).mem = s.mem := rfl
@[simp] theorem csAssert_env : (csAssert s).env = s.env := rfl
@[simp] theorem csAssert_bus : (csAssert s).bus = { s.bus with csAsserted := true } := rfl

/-! ### csDeassert -/

@[simp] theorem csDeassert_cfg : (csDeassert s).cfg = s.cfg := rfl
@[simp] theorem csDeassert_host : (csDeassert s).host = s.host := rfl
@[simp] theorem csDeassert_op : (csDeassert s).op = s.op := rfl
@[simp] theorem csDeassert_initState : (csDeassert s).initState = s.initState := rfl
@[simp] theorem csDeassert_geom : (csDeassert s).geom = s.geom := rfl
@[simp] theorem csDeassert_cmd : (csDeassert s).cmd = s.cmd := rfl
@[simp] theorem csDeassert_csd : (csDeassert s).csd = s.csd := rfl
@[simp] theorem csDeassert_seq : (csDeassert s).seq = s.seq := rfl
@[simp] theorem csDeassert_mem : (csDeassert s).mem = s.mem := rfl
@[simp] theorem csDeassert_env : (csDeassert s).env = s.env := rfl
@[simp] theorem csDeassert_bus : (csDeassert s).bus = { s.bus with csAsserted := false } := rfl

/-! ### sleep -/

@[simp] theorem sleep_cfg (ms : Word) : (sleep ms s).cfg = s.cfg := rfl
@[simp] theorem sleep_host (ms : Word) : (sleep ms s).host = s.host := rfl
@[simp] theorem sleep_op (ms : Word) : (sleep ms s).op = s.op := rfl
@[simp] theorem sleep_initState (ms : Word) : (sleep ms s).initState = s.initState := rfl
@[simp] theorem sleep_geom (ms : Word) : (sleep ms s).geom = s.geom := rfl
@[simp] theorem sleep_bus (ms : Word) : (sleep ms s).bus = s.bus := rfl
@[simp] theorem sleep_cmd (ms : Word) : (sleep ms s).cmd = s.cmd := rfl
@[simp] theorem sleep_csd (ms : Word) : (sleep ms s).csd = s.csd := rfl
@[simp] theorem sleep_seq (ms : Word) : (sleep ms s).seq = s.seq := rfl
@[simp] theorem sleep_mem (ms : Word) : (sleep ms s).mem = s.mem := rfl
@[simp] theorem sleep_env (ms : Word) : (sleep ms s).env = s.env := rfl

/-! ### setClock -/

@[simp] theorem setClock_cfg (hz : Word) : (setClock hz s).cfg = s.cfg := rfl
@[simp] theorem setClock_host (hz : Word) : (setClock hz s).host = s.host := rfl
@[simp] theorem setClock_op (hz : Word) : (setClock hz s).op = s.op := rfl
@[simp] theorem setClock_initState (hz : Word) : (setClock hz s).initState = s.initState := rfl
@[simp] theorem setClock_geom (hz : Word) : (setClock hz s).geom = s.geom := rfl
@[simp] theorem setClock_cmd (hz : Word) : (setClock hz s).cmd = s.cmd := rfl
@[simp] theorem setClock_csd (hz : Word) : (setClock hz s).csd = s.csd := rfl
@[simp] theorem setClock_seq (hz : Word) : (setClock hz s).seq = s.seq := rfl
@[simp] theorem setClock_mem (hz : Word) : (setClock hz s).mem = s.mem := rfl
@[simp] theorem setClock_env (hz : Word) : (setClock hz s).env = s.env := rfl
@[simp] theorem setClock_bus (hz : Word) : (setClock hz s).bus = { s.bus with clockHz := some hz } := rfl
@[simp] theorem setClock_traceRev (hz : Word) : (setClock hz s).traceRev = .clk hz :: s.traceRev := rfl

/-! ### memRead -/

@[simp] theorem memRead_cfg (a : Word) : (memRead a s).cfg = s.cfg := rfl
@[simp] theorem memRead_host (a : Word) : (memRead a s).host = s.host := rfl
@[simp] theorem memRead_op (a : Word) : (memRead a s).op = s.op := rfl
@[simp] theorem memRead_initState (a : Word) : (memRead a s).initState = s.initState := rfl
@[simp] theorem memRead_geom (a : Word) : (memRead a s).geom = s.geom := rfl
@[simp] theorem memRead_bus (a : Word) : (memRead a s).bus = s.bus := rfl
@[simp] theorem memRead_cmd (a : Word) : (memRead a s).cmd = s.cmd := rfl
@[simp] theorem memRead_csd (a : Word) : (memRead a s).csd = s.csd := rfl
@[simp] theorem memRead_mem (a : Word) : (memRead a s).mem = s.mem := rfl
@[simp] theorem memRead_env (a : Word) : (memRead a s).env = s.env := rfl
@[simp] theorem memRead_seq (a : Word) : (memRead a s).seq = { s.seq with datum := memByte a s } := rfl
@[simp] theorem memRead_traceRev (a : Word) : (memRead a s).traceRev = .mr a (memByte a s) :: s.traceRev := rfl

/-! ### memWrite -/

@[simp] theorem memWrite_cfg (a : Word) (v : Byte) : (memWrite a v s).cfg = s.cfg := rfl
@[simp] theorem memWrite_host (a : Word) (v : Byte) : (memWrite a v s).host = s.host := rfl
@[simp] theorem memWrite_op (a : Word) (v : Byte) : (memWrite a v s).op = s.op := rfl
@[simp] theorem memWrite_initState (a : Word) (v : Byte) : (memWrite a v s).initState = s.initState := rfl
@[simp] theorem memWrite_geom (a : Word) (v : Byte) : (memWrite a v s).geom = s.geom := rfl
@[simp] theorem memWrite_bus (a : Word) (v : Byte) : (memWrite a v s).bus = s.bus := rfl
@[simp] theorem memWrite_cmd (a : Word) (v : Byte) : (memWrite a v s).cmd = s.cmd := rfl
@[simp] theorem memWrite_csd (a : Word) (v : Byte) : (memWrite a v s).csd = s.csd := rfl
@[simp] theorem memWrite_seq (a : Word) (v : Byte) : (memWrite a v s).seq = s.seq := rfl
@[simp] theorem memWrite_env (a : Word) (v : Byte) : (memWrite a v s).env = s.env := rfl
@[simp] theorem memWrite_mem (a : Word) (v : Byte) : (memWrite a v s).mem = memoryWrite s.mem a.toNat v := rfl
@[simp] theorem memWrite_traceRev (a : Word) (v : Byte) : (memWrite a v s).traceRev = .mw a v :: s.traceRev := rfl

/-! ### complete -/

@[simp] theorem complete_cfg (c : ErrCode) : (complete c s).cfg = s.cfg := rfl
@[simp] theorem complete_host (c : ErrCode) : (complete c s).host = s.host := rfl
@[simp] theorem complete_initState (c : ErrCode) : (complete c s).initState = s.initState := rfl
@[simp] theorem complete_geom (c : ErrCode) : (complete c s).geom = s.geom := rfl
@[simp] theorem complete_bus (c : ErrCode) : (complete c s).bus = s.bus := rfl
@[simp] theorem complete_cmd (c : ErrCode) : (complete c s).cmd = s.cmd := rfl
@[simp] theorem complete_csd (c : ErrCode) : (complete c s).csd = s.csd := rfl
@[simp] theorem complete_traceRev (c : ErrCode) : (complete c s).traceRev = s.traceRev := rfl
@[simp] theorem complete_mem (c : ErrCode) : (complete c s).mem = s.mem := rfl
@[simp] theorem complete_env (c : ErrCode) : (complete c s).env = s.env := rfl
@[simp] theorem complete_op (c : ErrCode) : (complete c s).op = { s.op with err := c, busy := false, done := true } := rfl
@[simp] theorem complete_seq (c : ErrCode) : (complete c s).seq = { s.seq with pos := .idle } := rfl

/-! ### finishWith -/

@[simp] theorem finishWith_cfg (c : ErrCode) : (finishWith c s).cfg = s.cfg := rfl
@[simp] theorem finishWith_host (c : ErrCode) : (finishWith c s).host = s.host := rfl
@[simp] theorem finishWith_op (c : ErrCode) : (finishWith c s).op = s.op := rfl
@[simp] theorem finishWith_initState (c : ErrCode) : (finishWith c s).initState = s.initState := rfl
@[simp] theorem finishWith_geom (c : ErrCode) : (finishWith c s).geom = s.geom := rfl
@[simp] theorem finishWith_bus (c : ErrCode) : (finishWith c s).bus = s.bus := rfl
@[simp] theorem finishWith_cmd (c : ErrCode) : (finishWith c s).cmd = s.cmd := rfl
@[simp] theorem finishWith_csd (c : ErrCode) : (finishWith c s).csd = s.csd := rfl
@[simp] theorem finishWith_traceRev (c : ErrCode) : (finishWith c s).traceRev = s.traceRev := rfl
@[simp] theorem finishWith_mem (c : ErrCode) : (finishWith c s).mem = s.mem := rfl
@[simp] theorem finishWith_env (c : ErrCode) : (finishWith c s).env = s.env := rfl
@[simp] theorem finishWith_seq (c : ErrCode) : (finishWith c s).seq = { s.seq with pos := .finish, code := c } := rfl

/-! ### startCommand -/

@[simp] theorem startCommand_cfg (f : Form) (arg : Word) : (startCommand f arg s).cfg = s.cfg := rfl
@[simp] theorem startCommand_host (f : Form) (arg : Word) : (startCommand f arg s).host = s.host := rfl
@[simp] theorem startCommand_op (f : Form) (arg : Word) : (startCommand f arg s).op = s.op := rfl
@[simp] theorem startCommand_initState (f : Form) (arg : Word) : (startCommand f arg s).initState = s.initState := rfl
@[simp] theorem startCommand_geom (f : Form) (arg : Word) : (startCommand f arg s).geom = s.geom := rfl
@[simp] theorem startCommand_bus (f : Form) (arg : Word) : (startCommand f arg s).bus = s.bus := rfl
@[simp] theorem startCommand_csd (f : Form) (arg : Word) : (startCommand f arg s).csd = s.csd := rfl
@[simp] theorem startCommand_traceRev (f : Form) (arg : Word) : (startCommand f arg s).traceRev = s.traceRev := rfl
@[simp] theorem startCommand_mem (f : Form) (arg : Word) : (startCommand f arg s).mem = s.mem := rfl
@[simp] theorem startCommand_env (f : Form) (arg : Word) : (startCommand f arg s).env = s.env := rfl
@[simp] theorem startCommand_seq (f : Form) (arg : Word) : (startCommand f arg s).seq = { s.seq with pos := .cmdIssue, form := f } := rfl

/-! ### beginCommand -/

@[simp] theorem beginCommand_cfg (f : Form) (arg : Word) (crc : Byte) : (beginCommand f arg crc s).cfg = s.cfg := rfl
@[simp] theorem beginCommand_host (f : Form) (arg : Word) (crc : Byte) : (beginCommand f arg crc s).host = s.host := rfl
@[simp] theorem beginCommand_op (f : Form) (arg : Word) (crc : Byte) : (beginCommand f arg crc s).op = s.op := rfl
@[simp] theorem beginCommand_initState (f : Form) (arg : Word) (crc : Byte) : (beginCommand f arg crc s).initState = s.initState := rfl
@[simp] theorem beginCommand_geom (f : Form) (arg : Word) (crc : Byte) : (beginCommand f arg crc s).geom = s.geom := rfl
@[simp] theorem beginCommand_csd (f : Form) (arg : Word) (crc : Byte) : (beginCommand f arg crc s).csd = s.csd := rfl
@[simp] theorem beginCommand_mem (f : Form) (arg : Word) (crc : Byte) : (beginCommand f arg crc s).mem = s.mem := rfl
@[simp] theorem beginCommand_env (f : Form) (arg : Word) (crc : Byte) : (beginCommand f arg crc s).env = s.env := rfl
@[simp] theorem beginCommand_seq (f : Form) (arg : Word) (crc : Byte) : (beginCommand f arg crc s).seq = { s.seq with pos := .cmdFrame, form := f, k := 0 } := rfl

/-! ### countBlock -/

@[simp] theorem countBlock_cfg : (countBlock s).cfg = s.cfg := rfl
@[simp] theorem countBlock_host : (countBlock s).host = s.host := rfl
@[simp] theorem countBlock_initState : (countBlock s).initState = s.initState := rfl
@[simp] theorem countBlock_geom : (countBlock s).geom = s.geom := rfl
@[simp] theorem countBlock_bus : (countBlock s).bus = s.bus := rfl
@[simp] theorem countBlock_cmd : (countBlock s).cmd = s.cmd := rfl
@[simp] theorem countBlock_csd : (countBlock s).csd = s.csd := rfl
@[simp] theorem countBlock_seq : (countBlock s).seq = s.seq := rfl
@[simp] theorem countBlock_traceRev : (countBlock s).traceRev = s.traceRev := rfl
@[simp] theorem countBlock_mem : (countBlock s).mem = s.mem := rfl
@[simp] theorem countBlock_env : (countBlock s).env = s.env := rfl
@[simp] theorem countBlock_op : (countBlock s).op = { s.op with blocksDone := s.op.blocksDone + 1 } := rfl

/-! ### startSend -/

@[simp] theorem startSend_cfg (t : Byte) : (startSend t s).cfg = s.cfg := rfl
@[simp] theorem startSend_host (t : Byte) : (startSend t s).host = s.host := rfl
@[simp] theorem startSend_op (t : Byte) : (startSend t s).op = s.op := rfl
@[simp] theorem startSend_initState (t : Byte) : (startSend t s).initState = s.initState := rfl
@[simp] theorem startSend_geom (t : Byte) : (startSend t s).geom = s.geom := rfl
@[simp] theorem startSend_bus (t : Byte) : (startSend t s).bus = s.bus := rfl
@[simp] theorem startSend_cmd (t : Byte) : (startSend t s).cmd = s.cmd := rfl
@[simp] theorem startSend_csd (t : Byte) : (startSend t s).csd = s.csd := rfl
@[simp] theorem startSend_traceRev (t : Byte) : (startSend t s).traceRev = s.traceRev := rfl
@[simp] theorem startSend_mem (t : Byte) : (startSend t s).mem = s.mem := rfl
@[simp] theorem startSend_env (t : Byte) : (startSend t s).env = s.env := rfl
@[simp] theorem startSend_seq (t : Byte) : (startSend t s).seq = { s.seq with pos := .txAssert, tok := t } := rfl

/-! ### acceptCommand -/

@[simp] theorem acceptCommand_cfg (v : Word) : (acceptCommand v s).cfg = s.cfg := rfl
@[simp] theorem acceptCommand_initState (v : Word) : (acceptCommand v s).initState = s.initState := rfl
@[simp] theorem acceptCommand_geom (v : Word) : (acceptCommand v s).geom = s.geom := rfl
@[simp] theorem acceptCommand_bus (v : Word) : (acceptCommand v s).bus = s.bus := rfl
@[simp] theorem acceptCommand_cmd (v : Word) : (acceptCommand v s).cmd = s.cmd := rfl
@[simp] theorem acceptCommand_csd (v : Word) : (acceptCommand v s).csd = s.csd := rfl
@[simp] theorem acceptCommand_seq (v : Word) : (acceptCommand v s).seq = s.seq := rfl
@[simp] theorem acceptCommand_traceRev (v : Word) : (acceptCommand v s).traceRev = s.traceRev := rfl
@[simp] theorem acceptCommand_mem (v : Word) : (acceptCommand v s).mem = s.mem := rfl
@[simp] theorem acceptCommand_env (v : Word) : (acceptCommand v s).env = s.env := rfl
@[simp] theorem acceptCommand_host (v : Word) : (acceptCommand v s).host = { s.host with cmd := v } := rfl

/-! ### popHost -/

@[simp] theorem popHost_cfg : (popHost s).cfg = s.cfg := rfl
@[simp] theorem popHost_host : (popHost s).host = s.host := rfl
@[simp] theorem popHost_op : (popHost s).op = s.op := rfl
@[simp] theorem popHost_initState : (popHost s).initState = s.initState := rfl
@[simp] theorem popHost_geom : (popHost s).geom = s.geom := rfl
@[simp] theorem popHost_bus : (popHost s).bus = s.bus := rfl
@[simp] theorem popHost_cmd : (popHost s).cmd = s.cmd := rfl
@[simp] theorem popHost_csd : (popHost s).csd = s.csd := rfl
@[simp] theorem popHost_seq : (popHost s).seq = s.seq := rfl
@[simp] theorem popHost_traceRev : (popHost s).traceRev = s.traceRev := rfl
@[simp] theorem popHost_mem : (popHost s).mem = s.mem := rfl
@[simp] theorem popHost_env : (popHost s).env = { s.env with host := s.env.host.tail } := rfl

end Sys2Proof.Laws
end

