-- ==== Sys2Proof/Laws/Ops.lean ====
section
/-! SUPPORT. One lemma per shared operation, saying once everything it can do; cited instead of unfolding it. -/

namespace Sys2Proof.Laws
open Sys2Proof.Machine

/-! ### Ending an operation -/

theorem raise_of_released (kind : ErrCode) (s : State) (h : s.bus.csAsserted = false) :
    raise kind s = finishWith kind s := by
  simp [raise, h]

theorem raise_of_asserted (kind : ErrCode) (s : State) (h : s.bus.csAsserted = true) :
    raise kind s = { s with seq := { s.seq with pos := .abortRelease, code := kind } } := by
  simp [raise, h]

theorem raiseAtOnce_of_released (kind : ErrCode) (s : State) (h : s.bus.csAsserted = false) :
    raiseAtOnce kind s = complete kind s := by
  simp [raiseAtOnce, h]

/-- `raise` writes only the position and the code. -/
theorem raise_cases (kind : ErrCode) (s : State) :
    (s.bus.csAsserted = true ∧ raise kind s = { s with seq := { s.seq with pos := .abortRelease, code := kind } }) ∨
    (s.bus.csAsserted = false ∧ raise kind s = { s with seq := { s.seq with pos := .finish, code := kind } }) := by
  cases h : s.bus.csAsserted
  · exact .inr ⟨rfl, by simp [raise, h, finishWith]⟩
  · exact .inl ⟨rfl, by simp [raise, h]⟩

/-! ### Fail and the retry loop -/

theorem initFail_of_asserted (s : State) (h : s.bus.csAsserted = true) : initFail s = goto .abortRelease s := by
  simp [initFail, h]

theorem initFail_of_released (s : State) (h : s.bus.csAsserted = false) : initFail s = attemptFailed s := by
  simp [initFail, h]

theorem attemptFailed_last (s : State) (h : s.op.attempt = Config.maxInitAttempts) :
    attemptFailed s = raise .initFailed { s with initState := .fail } := by
  simp [attemptFailed, h]

theorem attemptFailed_more (s : State) (h : s.op.attempt ≠ Config.maxInitAttempts) :
    attemptFailed s = goto .retryDeassert { s with initState := .fail } := by
  simp [attemptFailed, h]

/-! ### Acceptance (R41, R320) and the preconditions (R322) -/

theorem hostCommand_of_busy (v : Word) (body : State → State) (s : State) (h : s.op.busy = true) :
    hostCommand v body s = { s with op := { s.op with ovr := true } } := by
  simp [hostCommand, h]

theorem hostCommand_of_idle (v : Word) (body : State → State) (s : State) (h : s.op.busy = false) :
    hostCommand v body s = body (acceptCommand v s) := by
  simp [hostCommand, h]

theorem checkTransfer_ok (body : State → State) (s : State) (h : s.initState = .ready) (hl : lengthOk s = true) :
    checkTransfer body s = body s := by
  simp [checkTransfer, h, hl]

theorem checkTransfer_fails (body : State → State) (s : State) (h : ¬(s.initState = .ready ∧ lengthOk s = true)) :
    checkTransfer body s = raiseAtOnce .protocolViolation s := by
  unfold checkTransfer
  split
  · split
    · exact absurd ⟨‹_›, ‹_›⟩ h
    · rfl
  · rfl

theorem ioctlWhenReady_ready (answer : State → Word) (s : State) (h : s.initState = .ready) :
    ioctlWhenReady answer s = ioctlAnswer (answer s) s := by
  simp [ioctlWhenReady, h]

theorem ioctlWhenReady_not (answer : State → Word) (s : State) (h : s.initState ≠ .ready) :
    ioctlWhenReady answer s = raiseAtOnce .protocolViolation s := by
  simp [ioctlWhenReady, h]

/-! ### Dispatch (R321, R325) -/

/-- Dispatch by OP and IOCTL_OP (R321, R325), as one function of the word. -/
def dispatchOf (v : Word) : State → State :=
  if v.extractLsb' 0 4 = 0x1 then initStart
  else if v.extractLsb' 0 4 = 0x2 then checkTransfer readStart
  else if v.extractLsb' 0 4 = 0x3 then checkTransfer writeStart
  else if v.extractLsb' 0 4 = 0x4 then
    if v.extractLsb' 8 8 = 4 then ioctlWhenReady fun s => s.geom.sectorCount
    else if v.extractLsb' 8 8 = 5 then ioctlAnswer 0x00000200
    else if v.extractLsb' 8 8 = 6 then ioctlWhenReady fun s => (cardTypeBit s.geom.cardType).setWidth 32
    else raiseAtOnce .protocolViolation
  else raiseAtOnce .protocolViolation

theorem hostWord_of_fields (v : Word) (op : BitVec 4) (h : v.extractLsb' 0 4 = op) :
    hostWord (v.extractLsb' 4 28) op = v := by
  subst h
  unfold hostWord
  ext i hlt
  simp
  grind
theorem ioctlWord_of_fields (v : Word) (iop : BitVec 8) (h : v.extractLsb' 0 4 = 4) (hi : v.extractLsb' 8 8 = iop) :
    ioctlWord (v.extractLsb' 16 16) iop (v.extractLsb' 4 4) = v := by
  subst hi
  unfold ioctlWord
  rw [← h]
  ext i hlt
  simp
  grind

/-- A host write of `v` to CMD, whatever its word (R140, R320, R321). -/
theorem exec_decodeHost (v : Word) (s : State) :
    exec (decodeHost v) s = .next (hostCommand v (dispatchOf v) s) := by
  have reserved : ∀ op : BitVec 4, v.extractLsb' 0 4 = op →
      reservedCommand (v.extractLsb' 4 28) op s = .next (hostCommand v (raiseAtOnce .protocolViolation) s) := by
    intro op h
    simp only [reservedCommand, hostWord_of_fields v op h]
  simp only [decodeHost, dispatchOf]
  by_cases h : v.extractLsb' 0 4 = 0x1
  · rw [if_pos h, if_pos h]
    simp only [exec, execInit, hostWord_of_fields v _ h]
  rw [if_neg h, if_neg h]
  by_cases h : v.extractLsb' 0 4 = 0x2
  · rw [if_pos h, if_pos h]
    simp only [exec, execRead, hostWord_of_fields v _ h]
  rw [if_neg h, if_neg h]
  by_cases h : v.extractLsb' 0 4 = 0x3
  · rw [if_pos h, if_pos h]
    simp only [exec, execWrite, hostWord_of_fields v _ h]
  rw [if_neg h, if_neg h]
  by_cases h : v.extractLsb' 0 4 = 0x4
  · rw [if_pos h, if_pos h]
    by_cases hi : v.extractLsb' 8 8 = 4
    · rw [if_pos hi, if_pos hi]
      simp only [exec, execIoctlSectorCount, ioctlWord_of_fields v _ h hi]
    rw [if_neg hi, if_neg hi]
    clear hi
    by_cases hi : v.extractLsb' 8 8 = 5
    · rw [if_pos hi, if_pos hi]
      simp only [exec, execIoctlSectorSize, ioctlWord_of_fields v _ h hi]
    rw [if_neg hi, if_neg hi]
    clear hi
    by_cases hi : v.extractLsb' 8 8 = 6
    · rw [if_pos hi, if_pos hi]
      simp only [exec, execIoctlCardType, ioctlWord_of_fields v _ h hi]
    rw [if_neg hi, if_neg hi]
    clear hi
    simp only [exec, execIoctlOther, ioctlWord_of_fields v _ h rfl]
  rw [if_neg h, if_neg h]
  by_cases h : v.extractLsb' 0 4 = 0x0
  · rw [if_pos h]
    exact reserved _ h
  rw [if_neg h]
  by_cases h : v.extractLsb' 0 4 = 0x5
  · rw [if_pos h]
    exact reserved _ h
  rw [if_neg h]
  by_cases h : v.extractLsb' 0 4 = 0x6
  · rw [if_pos h]
    exact reserved _ h
  rw [if_neg h]
  by_cases h : v.extractLsb' 0 4 = 0x7
  · rw [if_pos h]
    exact reserved _ h
  rw [if_neg h]
  by_cases h : v.extractLsb' 0 4 = 0x8
  · rw [if_pos h]
    exact reserved _ h
  rw [if_neg h]
  by_cases h : v.extractLsb' 0 4 = 0x9
  · rw [if_pos h]
    exact reserved _ h
  rw [if_neg h]
  by_cases h : v.extractLsb' 0 4 = 0xA
  · rw [if_pos h]
    exact reserved _ h
  rw [if_neg h]
  by_cases h : v.extractLsb' 0 4 = 0xB
  · rw [if_pos h]
    exact reserved _ h
  rw [if_neg h]
  by_cases h : v.extractLsb' 0 4 = 0xC
  · rw [if_pos h]
    exact reserved _ h
  rw [if_neg h]
  by_cases h : v.extractLsb' 0 4 = 0xD
  · rw [if_pos h]
    exact reserved _ h
  rw [if_neg h]
  by_cases h : v.extractLsb' 0 4 = 0xE
  · rw [if_pos h]
    exact reserved _ h
  rw [if_neg h]
  exact reserved _ (by bv_omega)

/-! ### Progress (R276) -/

theorem progress_cases (m : Nat) (s : State) :
    progress m s = s ∨ progress m s = { s with op := { s.op with progIp := true } } := by
  unfold progress
  split <;> simp

/-! ### The step -/

theorem step_of_valid (s : State) (h : s.cfg.valid = true) : step s = turn s := by simp [step, h]

theorem step_of_invalid (s : State) (h : s.cfg.valid = false) : step s = .refused .invalidConfig := by simp [step, h]

theorem turn_alone (s : State) (h : s.env.host = []) : turn s = framerTurn s := by simp [turn, h]

/-- A turn with a host action at the head of the list is that action, but for a waiting host. -/
theorem turn_action (s : State) (a : HostAction) (rest : List HostAction) (h : s.env.host = a :: rest)
    (ha : a ≠ .waitDone) : turn s = hostTurn a (popHost s) := by
  unfold turn
  rw [h]
  cases a <;> simp_all

/-- A waiting host gives the framer its turns until DONE = 1. -/
theorem turn_wait (s : State) (rest : List HostAction) (h : s.env.host = .waitDone :: rest) :
    turn s = if s.op.done then .next (popHost s) else framerTurn s := by
  simp [turn, h, hostTurn]

theorem framerTurn_of_fetched (s : State) (i : Instr) (h : fetched s = some i) : framerTurn s = exec i s := by
  simp [framerTurn, h]

theorem framerTurn_of_primitive (s : State) (h : fetched s = none) : framerTurn s = primitive s := by
  simp [framerTurn, h]

/-- Where the framer meets no row of the table whatever the card answers. -/
theorem fetched_none (s : State)
    (h : s.seq.pos ≠ .cmdIssue ∧ s.seq.pos ≠ .cmdPoll ∧ s.seq.pos ≠ .recvToken ∧ s.seq.pos ≠ .txToken ∧
      s.seq.pos ≠ .sendResponse ∧ s.seq.pos ≠ .busyPoll) : fetched s = none := by
  unfold fetched
  split <;> simp_all

end Sys2Proof.Laws
end

