-- ==== Sys2Proof/Laws/Run.lean ====
section
/-! SUPPORT. Runs of the framer, the card's coming bytes, and the events of a row of exchanges: the laws that carry a loop's
induction. -/

namespace Sys2Proof.Laws
open Sys2Proof.Machine

/-! ### Runs -/

@[simp] theorem runSteps_zero (s : State) : runSteps 0 s = .next s := rfl

theorem runSteps_succ_of_next {s t : State} (k : Nat) (h : step s = .next t) : runSteps (k + 1) s = runSteps k t := by
  have h' : Sys2Proof.core.step s = .next t := h
  simp only [runSteps, Host.Core.run, h']
  rfl

theorem runSteps_one_of_next {s t : State} (h : step s = .next t) : runSteps 1 s = .next t :=
  runSteps_succ_of_next 0 h

/-- A run that reaches `t` goes on from `t`. -/
theorem runSteps_add_of_next {s t : State} (j k : Nat) (h : runSteps j s = .next t) :
    runSteps (j + k) s = runSteps k t := by
  induction j generalizing s with
  | zero =>
    have hst : s = t := by simpa using h
    simp [hst]
  | succ j ih =>
    cases hs : step s with
    | next u =>
      rw [runSteps_succ_of_next j hs] at h
      rw [Nat.add_right_comm, runSteps_succ_of_next (j + k) hs]
      exact ih h
    | fault r =>
      have h' : Sys2Proof.core.step s = .fault r := hs
      simp [runSteps, Host.Core.run, h'] at h
    | refused r =>
      have h' : Sys2Proof.core.step s = .refused r := hs
      simp [runSteps, Host.Core.run, h'] at h

/-! ### The card's coming bytes (R27) -/

theorem misoAt_zero (s : State) : misoAt 0 s = nextMiso s := by
  unfold misoAt nextMiso
  cases s.env.miso <;> simp

/-- The coming bytes depend on the environment alone. -/
theorem misoAt_congr {s t : State} (h : t.env = s.env) (k : Nat) : misoAt k t = misoAt k s := by
  unfold misoAt
  rw [h]

@[simp] theorem misoAt_exchange (k : Nat) (m b : Byte) (s : State) : misoAt k (exchange m b s) = misoAt (k + 1) s := by
  have hk : s.env.drawn + 1 + k = s.env.drawn + (k + 1) := by omega
  unfold misoAt exchange
  cases s.env.miso <;> simp [hk]

@[simp] theorem misoAt_xfer (k : Nat) (m : Byte) (s : State) : misoAt k (xfer m s) = misoAt (k + 1) s :=
  misoAt_exchange k m _ s

/-! ### Events -/

@[simp] theorem exchanges_nil (cs : Bool) (first : Nat) (s : State) : exchanges cs first [] s = [] := rfl

theorem exchanges_cons (cs : Bool) (first : Nat) (m : Byte) (ms : List Byte) (s : State) :
    exchanges cs first (m :: ms) s = .x cs m (misoAt first s) :: exchanges cs (first + 1) ms s := by
  simp only [exchanges, List.mapIdx_cons, Nat.add_zero, Nat.add_comm _ 1, ← Nat.add_assoc]

theorem exchanges_append (cs : Bool) (first : Nat) (ms ns : List Byte) (s : State) :
    exchanges cs first (ms ++ ns) s = exchanges cs first ms s ++ exchanges cs (first + ms.length) ns s := by
  induction ms generalizing first with
  | nil => simp
  | cons m ms ih =>
    rw [List.cons_append, exchanges_cons, exchanges_cons, ih]
    simp [Nat.add_assoc, Nat.add_comm]

theorem exchanges_congr {s t : State} (h : t.env = s.env) (cs : Bool) (first : Nat) (ms : List Byte) :
    exchanges cs first ms t = exchanges cs first ms s := by
  unfold exchanges
  simp only [misoAt_congr h]

/-- One exchange later, the same bytes are each one exchange nearer. -/
theorem exchanges_exchange (cs : Bool) (first : Nat) (ms : List Byte) (m b : Byte) (s : State) :
    exchanges cs first ms (exchange m b s) = exchanges cs (first + 1) ms s := by
  simp only [exchanges, misoAt_exchange, Nat.add_right_comm first _ 1]

theorem exchanges_xfer (cs : Bool) (first : Nat) (ms : List Byte) (m : Byte) (s : State) :
    exchanges cs first ms (xfer m s) = exchanges cs (first + 1) ms s :=
  exchanges_exchange cs first ms m _ s

@[simp] theorem sleepEvents_zero : sleepEvents 0 = [] := rfl

@[simp] theorem pollEvents_zero (ms : Word) (s : State) : pollEvents ms 0 s = [] := rfl

/-- One more poll, at the end. -/
theorem pollEvents_succ (ms : Word) (n : Nat) (s : State) :
    pollEvents ms (n + 1) s = pollEvents ms n s ++ .x s.bus.csAsserted 0xFF (misoAt n s) :: sleepEvents ms := by
  simp [pollEvents, List.range_succ]

/-- One more poll, at the front: the rest is polled after one exchange. -/
theorem pollEvents_succ_front (ms : Word) (n : Nat) (b : Byte) (s : State) :
    pollEvents ms (n + 1) s =
      .x s.bus.csAsserted 0xFF (misoAt 0 s) :: sleepEvents ms ++ pollEvents ms n (exchange 0xFF b s) := by
  simp [pollEvents, List.range_succ_eq_map, List.flatMap_map]

theorem pollEvents_congr {s t : State} (he : t.env = s.env) (hb : t.bus = s.bus) (ms : Word) (n : Nat) :
    pollEvents ms n t = pollEvents ms n s := by
  simp only [pollEvents, misoAt_congr he, hb]

theorem trace_sleep (ms : Word) (s : State) : (sleep ms s).trace = s.trace ++ sleepEvents ms := by
  simp only [State.trace, sleep, sleepEvents]
  split <;> simp

theorem trace_setClock (hz : Word) (s : State) : (setClock hz s).trace = s.trace ++ [.clk hz] := by
  simp [State.trace, setClock]

theorem trace_exchange (m b : Byte) (s : State) :
    (exchange m b s).trace = s.trace ++ [.x s.bus.csAsserted m b] := by
  simp [State.trace]

theorem trace_xfer (m : Byte) (s : State) : (xfer m s).trace = s.trace ++ [.x s.bus.csAsserted m (misoAt 0 s)] := by
  rw [misoAt_zero]
  exact trace_exchange m _ s

theorem trace_csAssert (s : State) :
    (csAssert s).trace = s.trace ++ (if s.bus.csAsserted then [] else [.cs true]) := by
  cases h : s.bus.csAsserted <;> simp [State.trace, csAssert, h]

theorem trace_csDeassert (s : State) :
    (csDeassert s).trace = s.trace ++ (if s.bus.csAsserted then [.cs false] else []) := by
  cases h : s.bus.csAsserted <;> simp [State.trace, csDeassert, h]

theorem trace_congr {s t : State} (h : t.traceRev = s.traceRev) : t.trace = s.trace := by
  unfold State.trace
  rw [h]

end Sys2Proof.Laws
end

