-- ==== Sys2Proof/Tests/Slice0.lean ====
section
/-! SUPPORT. The model's own tests: ill-formed terms are refused, words written out from the spec decode, single steps give
the spec's worked numbers, and every statement with hypotheses has a state and operands that meet them. -/

namespace Sys2Proof.Tests
open Sys2Proof.Machine

/-! ### Helpers -/

/-- The next state of an outcome. -/
def nextOf : Host.Outcome State Fault Refusal → Option State
  | .next t => some t
  | _ => none

/-- The refusal of an outcome. -/
def refusalOf : Host.Outcome State Fault Refusal → Option Refusal
  | .refused r => some r
  | _ => none

/-- The state after reset with the host about to do `a`. -/
def doing (a : HostAction) : State := { State.reset with env := { State.reset.env with host := [a] } }

/-- An idle Ready block with byte addressing, a block number and a buffer length. -/
def readyWith (unit : AddressUnit) (blk len : Word) : State :=
  { State.reset with
    initState := .ready
    geom := { sectorCount := 15523840, cardType := .highCapacity, addressUnit := unit, geomValid := true }
    host := { State.reset.host with blockNum := blk, bufLen := len } }

/-- A running operation `op` at position `p` with SendCommand form `f`, CS as given and the card about to answer `miso`. -/
def running (op : BitVec 4) (p : Pos) (f : Form) (cs : Bool) (miso : List Byte) : State :=
  { readyWith .byte 0 1024 with
    op := { State.reset.op with busy := true, latOp := op, latLen := 1024 }
    bus := { csAsserted := cs, clockHz := some 4000000 }
    seq := { State.reset.seq with pos := p, form := f, tok := 0xFC }
    env := { State.reset.env with miso := miso } }

/-- The same with R1 `b` held (SendCommand's `b`). -/
def answered (p : Pos) (f : Form) (b : Byte) : State :=
  let s := running (formOp f) p f false [0xFF]
  { s with seq := { s.seq with r1 := b }, geom := { s.geom with geomValid := false }, initState := .reset }

/-- A SendCommand call of form `f` about to begin, with the card about to answer `miso`. -/
def calling (f : Form) (arg : Word) (miso : List Byte) : State :=
  startCommand f arg (running (formOp f) .cmdIssue f false miso)

/-- The same state with every budget at 1. -/
def tight (s : State) : State :=
  { s with cfg := { s.cfg with r1PollBudget := 1, acmd41Budget := 1, tokenPollBudget := 1, busyPollBudget := 1 } }

/-! ### Ill-formed terms are refused -/

theorem test_wf_ioctl_other_not_4 : WellFormed (.ioctlOther 0 4 0) = false := by decide
theorem test_wf_ioctl_other_not_5 : WellFormed (.ioctlOther 0xFFFF 5 0xF) = false := by decide
theorem test_wf_ioctl_other_not_6 : WellFormed (.ioctlOther 0 6 0) = false := by decide
theorem test_wf_ioctl_other_7 : WellFormed (.ioctlOther 0 7 0) = true := by decide
theorem test_wf_rejection_not_accepted : WellFormed (.dataRejected 0x05) = false ∧ WellFormed (.dataRejected 0xE5) = false := by
  decide
theorem test_wf_rejection : WellFormed (.dataRejected 0x0B) = true := by decide

/-! ### Words written out from the spec's encodings -/

/-- R140: OP in CMD[3:0]. -/
theorem test_decode_operations :
    decodeHost 0b0000_0000_0000_0000_0000_0000_0000_0001#32 = .init 0 ∧
    decodeHost 0b0000_0000_0000_0000_0000_0100_0000_0010#32 = .read 0x40 ∧
    decodeHost 0b1000_0000_0000_0000_0000_0000_0000_0011#32 = .write 0x8000000 := by decide

/-- R325: IOCTL_OP in CMD[15:8]; CMD[31:16] and CMD[7:4] are kept apart. -/
theorem test_decode_ioctls :
    decodeHost 0b0000_0000_0000_0001_0000_0100_0000_0100#32 = .ioctlSectorCount 1 0 ∧
    decodeHost 0b0000_0000_0000_0000_0000_0101_1111_0100#32 = .ioctlSectorSize 0 0xF ∧
    decodeHost 0b0000_0000_0000_0000_0000_0110_0000_0100#32 = .ioctlCardType 0 0 ∧
    decodeHost 0b0000_0000_0000_0000_0000_0111_0000_0100#32 = .ioctlOther 0 7 0 ∧
    decodeHost 0b0000_0000_0000_0000_0000_0000_0000_0100#32 = .ioctlOther 0 0 0 := by decide

/-- R141: OP = 0x0 and 0x5 to 0xF are reserved. -/
theorem test_decode_reserved :
    decodeHost 0x00000000 = .reserved0 0 ∧ decodeHost 0x00000005 = .reserved5 0 ∧ decodeHost 0x00000016 = .reserved6 1 ∧
    decodeHost 0x00000007 = .reserved7 0 ∧ decodeHost 0x00000008 = .reserved8 0 ∧ decodeHost 0x00000009 = .reserved9 0 ∧
    decodeHost 0x0000000A = .reservedA 0 ∧ decodeHost 0x0000000B = .reservedB 0 ∧ decodeHost 0x0000000C = .reservedC 0 ∧
    decodeHost 0x0000000D = .reservedD 0 ∧ decodeHost 0x0000000E = .reservedE 0 ∧ decodeHost 0xFFFFFFFF = .reservedF 0xFFFFFFF := by
  decide

/-- R142: the frames of the initialisation, with PH = 0x01. -/
theorem test_decode_init_frames :
    decodeFrame false 0x400000000095 = .ok .cmd0 ∧ decodeFrame false 0x48000001AA87 = .ok .cmd8 ∧
    decodeFrame false 0x770000000001 = .ok (.cmd55 0x01) ∧ decodeFrame false 0x690000000001 = .ok (.acmd41V1 0x01) ∧
    decodeFrame false 0x694000000001 = .ok (.acmd41V2 0x01) ∧ decodeFrame false 0x7A0000000001 = .ok (.cmd58Loop 0x01) ∧
    decodeFrame true 0x7A0000000001 = .ok (.cmd58Final 0x01) ∧ decodeFrame false 0x490000000001 = .ok (.cmd9 0x01) ∧
    decodeFrame false 0x500000020001 = .ok (.cmd16 0x01) := by decide

/-- R142: the frames of the transfers. -/
theorem test_decode_transfer_frames :
    decodeFrame false 0x510000000501 = .ok (.cmd17 5 0x01) ∧ decodeFrame false 0x520000040001 = .ok (.cmd18 0x400 0x01) ∧
    decodeFrame false 0x4C0000000001 = .ok (.cmd12 0x01) ∧ decodeFrame false 0x580000000001 = .ok (.cmd24 0 0x01) ∧
    decodeFrame false 0x590000060001 = .ok (.cmd25 0x600 0x01) := by decide

/-- R142: a frame that is none of the 14 is rejected: CMD1, CMD0 and CMD16 with another argument, CMD8 with another CRC. -/
theorem test_decode_frame_rejected :
    decodeFrame false 0x410000000001 = .error .frameNotEmitted ∧ decodeFrame false 0x400000000195 = .error .frameNotEmitted ∧
    decodeFrame false 0x500000010001 = .error .frameNotEmitted ∧ decodeFrame false 0x48000001AA01 = .error .frameNotEmitted := by
  decide

/-- R122, R128, R130, R131: the byte rows, and what is none. -/
theorem test_decode_bytes :
    decodeR1 0b0000_0101#8 = .ok (.r1Valid 0b000_0101) ∧ decodeR1 0b1000_0000#8 = .error .noResponse ∧
    decodeRxToken 0b1111_1110#8 = .ok .tokenStartRx ∧ decodeRxToken 0b1111_1100#8 = .error .notStartToken ∧
    decodeTxToken 0b1111_1110#8 = .ok .tokenStartTx ∧ decodeTxToken 0b1111_1100#8 = .ok .tokenMultiWrite ∧
    decodeTxToken 0b1111_1101#8 = .ok .tokenStopTran ∧ decodeTxToken 0b1111_1111#8 = .error .tokenNotSent ∧
    decodeResponse 0b1110_0101#8 = .dataAccepted 0b111 ∧ decodeResponse 0b0000_1011#8 = .dataRejected 0x0B ∧
    decodeResponse 0xFF = .dataRejected 0xFF ∧
    decodeBusy 0x00 = .ok .busy ∧ decodeBusy 0x01 = .error .notBusy := by decide

/-- Bits of the wrong size are no instruction on their channel. -/
theorem test_decode_wrong_size : decode .r1Poll (.host 0) = .error .wrongSize := by decide

/-! ### A word of the table runs as the next step -/

theorem test_fetch_read_from_reset :
    (nextOf (step (State.reset.withFetchWord 32 0x2))).map (readReg .status) = some 0x00000502 := by decide
theorem test_fetch_cmd8_from_reset :
    (nextOf (step (State.reset.withFetchWord 48 0x48000001AA87))).map (fun t => t.cmd.frame.toList)
      = some [0x48, 0x00, 0x00, 0x01, 0xAA, 0x87] := by decide
theorem test_fetch_r1_from_reset :
    (nextOf (step (State.reset.withFetchWord 8 0x25))).map (fun t => t.traceRev) = some [.x false 0xFF 0x25] := by decide
theorem test_fetch_token_from_reset :
    (nextOf (step (State.reset.withFetchWord 8 0xFE))).map (fun t => (t.traceRev, t.seq.pos))
      = some ([.x false 0xFF 0xFE], .recvData) := by decide

/-! ### Single steps against the spec's examples -/

/-- R390: STATUS = 0 and SECTOR_SIZE = 0x200 right after reset. -/
theorem test_reset_status : readReg .status State.reset = 0 ∧ readReg .sectorSize State.reset = 0x200 := by decide

/-- R391, R390: a reset in mid-operation drops it; CS_N is high. -/
theorem test_reset_drops_operation :
    (nextOf (step { running 2 .recvData .cmd17 true [] with
      env := { State.reset.env with host := [.reset] } })).map (fun t => (t.op.busy, csN t, t.traceRev))
      = some (false, true, []) := by decide

/-- R327: IOCTL 5 right after reset: RESULT = 0x200, ERR = 0 (STATUS: DONE and RES_VALID). -/
theorem test_ioctl5_after_reset :
    (nextOf (step (doing (.write 4 0x00 0x504)))).map (fun t => (readReg .result t, readReg .status t))
      = some (0x00000200, 0x00000012) := by decide

/-- R329: IOCTL 7 gives ERR = 5 and DONE = 1. -/
theorem test_ioctl7 :
    (nextOf (step (doing (.write 4 0x00 0x704)))).map (readReg .status) = some 0x00000502 := by decide

/-- R331: wr CMD, 0x0 gives DONE = 1, ERR = 5. -/
theorem test_reserved_op0 :
    (nextOf (step (doing (.write 4 0x00 0x0)))).map (readReg .status) = some 0x00000502 := by decide

/-- R326 with R240's card: RESULT = 0x00ECE000. -/
theorem test_ioctl4_ready :
    (nextOf (exec (.ioctlSectorCount 0 0) (readyWith .block 0 0))).map (readReg .result) = some 0x00ECE000 := by decide

/-- R328: a high-capacity card gives 1; before Ready, ERR = 5. -/
theorem test_ioctl6 :
    (nextOf (exec (.ioctlCardType 0 0) (readyWith .block 0 0))).map (readReg .result) = some 1 ∧
    (nextOf (exec (.ioctlCardType 0 0) State.reset)).map (readReg .status) = some 0x00000502 := by decide

/-- R322: BUF_LEN = 1000 gives ProtocolViolation with TRACE unchanged. -/
theorem test_len_1000 :
    (nextOf (exec (.read 0) (readyWith .block 0 1000))).map (fun t => (t.op.err, t.op.busy, t.traceRev))
      = some (.protocolViolation, false, []) := by decide

/-- R189: block 5 on a Block-addressed card. -/
theorem test_read_single_frame :
    (nextOf (exec (.read 0) (readyWith .block 5 512))).map (fun t => t.cmd.frame.toList)
      = some [0x51, 0, 0, 0, 5, 1] := by decide

/-- R190: block 2 on a Byte-addressed card. -/
theorem test_read_multi_frame :
    (nextOf (exec (.read 0) (readyWith .byte 2 1024))).map (fun t => t.cmd.frame.toList)
      = some [0x52, 0, 0, 4, 0, 1] := by decide

/-- R192: block 0. -/
theorem test_write_single_frame :
    (nextOf (exec (.write 0) (readyWith .byte 0 512))).map (fun t => t.cmd.frame.toList)
      = some [0x58, 0, 0, 0, 0, 1] := by decide

/-- R193: block 3 on a Byte-addressed card. -/
theorem test_write_multi_frame :
    (nextOf (exec (.write 0) (readyWith .byte 3 1024))).map (fun t => t.cmd.frame.toList)
      = some [0x59, 0, 0, 6, 0, 1] := by decide

/-- R270: lat_blk = 0x00800001, Byte, gives 0x200. -/
theorem test_protocol_address_wraps :
    (nextOf (exec (.read 0) (readyWith .byte 0x00800001 512))).map (fun t => t.cmd.frame.toList)
      = some [0x51, 0, 0, 0x02, 0, 1] := by decide

/-- R41, R400: a CMD write while busy sets OVR and leaves CMD. -/
theorem test_cmd_while_busy :
    (nextOf (step { running 2 .recvCrc .cmd17 true [] with
      env := { State.reset.env with host := [.write 4 0x00 0x1] } })).map (fun t => (t.op.ovr, t.host.cmd, t.op.latOp))
      = some (true, 0, 2) := by decide

/-- R330, R211: INIT clears the geometry and is busy. -/
theorem test_init_clears_geometry :
    (nextOf (exec (.init 0) (readyWith .block 0 0))).map (fun t => (readReg .geom t, readReg .sectors t, t.op.busy))
      = some (0, 0, true) := by decide

/-- R172: CsAssert's event comes first. -/
theorem test_cmd0_begins :
    (nextOf (exec .cmd0 State.reset)).map (fun t => (t.traceRev, t.cmd.frame.toList))
      = some ([.cs true], [0x40, 0, 0, 0, 0, 0x95]) := by decide

/-- R171: the CRC byte is the placeholder for CMD17 at address 0. -/
theorem test_crc_placeholder : crcByte Config.Params.default 17 0 = 0x01 := by decide

/-- R181: CMD8's R1 0x05 selects the v1 path; 0x04 fails (R215). -/
theorem test_cmd8_branches :
    (nextOf (step (answered .cmdReleaseClock .cmd8 0x05))).map (fun t => t.initState) = some .v1Init ∧
    (nextOf (step (answered .cmdReleaseClock .cmd8 0x04))).map (fun t => t.initState) = some .fail := by decide

/-- R186: CAP[0] = 0xC0 selects Block, 0x80 Byte (R218). -/
theorem test_ccs :
    (let s := answered .cmdReleaseClock .cmd58Final 0x00
     (nextOf (step { s with cmd := { s.cmd with cap := #v[0xC0, 0xFF, 0x80, 0x00] } })).map (fun t => t.geom.addressUnit)
      = some .block) ∧
    (let s := answered .cmdReleaseClock .cmd58Final 0x00
     (nextOf (step { s with cmd := { s.cmd with cap := #v[0x80, 0xFF, 0x80, 0x00] } })).map (fun t => t.geom.addressUnit)
      = some .byte) := by decide

/-- R182: CMD55's result is ignored: ACMD41 follows a Timeout too. -/
theorem test_cmd55_timeout_ignored :
    (let s := answered .cmdTimeoutClock .cmd55 0x00
     (nextOf (step { s with initState := .v1Init })).map (fun t => (t.seq.form, t.cmd.lastTo))
      = some (.acmd41V1, true)) := by decide

/-- R211, R236: with CLK(DATA_BAUD) out, READY and GEOM_VALID still read 0 while BUSY = 1; completion raises them with DONE. -/
theorem test_ready_with_done :
    (let s : State := { answered .readyClock .cmd16 0x00 with initState := .blockLenSet }
     (nextOf (runSteps 1 s)).map (fun t => (t.trace, readReg .status t, readReg .geom t))
       = some ([.clk 4000000], 0x00008001, 0x00000001) ∧
     (nextOf (runSteps 2 s)).map (fun t => (t.trace, readReg .status t, readReg .geom t))
       = some ([.clk 4000000], 0x00009006, 0x00000005)) := by decide

/-- R362: a clear by INT_STAT bit 0 in the step of a completion loses; bit 1 clears PROG_IP. -/
theorem test_intstat_with_completion :
    (let s := running 2 .finish .cmd17 false []
     let s' : State := { s with op := { s.op with progIp := true }, env := { s.env with host := [.writeWith 4 0x44 0x3] } }
     (nextOf (step s')).map (readReg .intStat) = some 0x1) := by decide

/-- R40: RESULT at 0x14, SECTORS at 0x18. R340, R34: ERR = 4 is DataTokenError, ADDR_UNIT = 1 is Block. -/
theorem test_register_numbers :
    accessedReg 4 0x14 = some .result ∧ accessedReg 4 0x18 = some .sectors ∧
    readReg .status { State.reset with op := { State.reset.op with err := .dataTokenError } } = 0x00000400 ∧
    readReg .geom { State.reset with geom := { State.reset.geom with addressUnit := .block } } = 0x00000002 := by decide

/-- R240: csd[8] = 0x3B, csd[9] = 0x37. -/
theorem test_v2_sectors :
    v2Sectors #v[0x40, 0, 0, 0, 0, 0, 0, 0, 0x3B, 0x37, 0, 0, 0, 0, 0, 0] = 15523840 := by decide

/-- R246: c_size = 0, c_size_mult = 0, read_bl_len = 9 gives 4; read_bl_len = 0 gives 0; all ones give 2^27. -/
theorem test_legacy_sectors :
    legacySectors #v[0, 0, 0, 0, 0, 9, 0, 0, 0, 0, 0, 0, 0, 0, 0, 0] = 4 ∧
    legacySectors #v[0, 0, 0, 0, 0, 0, 0, 0, 0, 0, 0, 0, 0, 0, 0, 0] = 0 ∧
    legacySectors #v[0, 0, 0, 0, 0, 0x0F, 0x03, 0xFF, 0xC0, 0x03, 0x80, 0, 0, 0, 0, 0] = 134217728 := by decide

/-- R262: the received byte is stored at B(0), and only there. -/
theorem test_recv_store :
    (let s := running 2 .recvStore .cmd17 true []
     (nextOf (step { s with seq := { s.seq with datum := 0xAB }, op := { s.op with latAddr := 0x20000000 } })).map
       (fun t => (t.mem, t.traceRev)) = some ([(0x20000000, 0xAB)], [.mw 0x20000000 0xAB])) := by decide

/-- R93: a buffer that crosses 0xFFFFFFFF wraps to 0. -/
theorem test_buffer_wraps :
    (let s := running 2 .recvStore .cmd17 true []
     bufferAddress 1 { s with op := { s.op with latAddr := 0xFFFFFFFF } } = 0) := by decide

/-- R27: a refused host memory access leaves the framer without a step. -/
theorem test_refused_memory :
    (let s := running 3 .sendFetch .cmd24 true []
     step { s with env := { s.env with refused := [(0, 1)] } } = .fault .hostMemoryRefused) := rfl

/-- R130: 0xE5 is accepted; the single write counts its block and waits while busy (R274). -/
theorem test_data_response_e5 :
    (nextOf (step (running 3 .sendResponse .cmd24 true [0xE5]))).map (fun t => (t.op.blocksDone, t.seq.pos))
      = some (1, .busyPoll) := by decide

/-- R352: the data response 0x0B leads to Abort with DataTokenError. -/
theorem test_data_response_0b :
    (nextOf (step (running 3 .sendResponse .cmd24 true [0x0B]))).map (fun t => (t.seq.code, t.seq.pos))
      = some (.dataTokenError, .abortRelease) := by decide

/-- R276: with interval 4, PROG_IP is set after block 4, not after block 3. -/
theorem test_progress :
    (progress 4 State.reset).op.progIp = true ∧ (progress 3 State.reset).op.progIp = false := by decide

/-- R266: the busy byte is followed by the Sleep, another byte by the release. -/
theorem test_busy :
    (nextOf (step { running 3 .busyPoll .cmd24 true [0x00] with seq := { State.reset.seq with pos := .busyPoll, tok := 0xFE } })).map
      (fun t => t.seq.pos) = some .busySleep ∧
    (nextOf (step { running 3 .busyPoll .cmd24 true [0x01] with seq := { State.reset.seq with pos := .busyPoll, tok := 0xFE } })).map
      (fun t => t.seq.pos) = some .endRelease := by decide

/-- R267: one filler byte follows 0xFD, which is the token here. -/
theorem test_stop_token :
    (let s := running 3 .txToken .cmd25 true [0xFF]
     (nextOf (step { s with seq := { s.seq with tok := 0xFD } })).map (fun t => (t.traceRev, t.seq.pos))
      = some ([.x true 0xFD 0xFF], .stopFiller)) := by decide

/-- R275: 0xFC goes out before a chunk's data. -/
theorem test_chunk_token :
    (nextOf (step (running 3 .txToken .cmd25 true [0xFF]))).map (fun t => (t.traceRev, t.seq.pos))
      = some ([.x true 0xFC 0xFF], .sendFetch) := by decide

/-- R262, R264: CsAssert, with its event, begins a block in either direction; R267: one filler byte, then BusyWait. -/
theorem test_block_begins :
    (nextOf (step (running 2 .recvAssert .cmd17 false []))).map (fun t => (t.trace, t.seq.pos))
      = some ([.cs true], .recvToken) ∧
    (nextOf (step (running 3 .txAssert .cmd24 false []))).map (fun t => (t.trace, t.seq.pos))
      = some ([.cs true], .txToken) ∧
    (nextOf (step (running 3 .stopFiller .cmd25 true [0x00]))).map (fun t => (t.trace, t.seq.pos))
      = some ([.x true 0xFF 0x00], .busyPoll) := by decide

/-- R93, R264: the byte at B(0) goes out, after its read. -/
theorem test_send_byte :
    (let s := running 3 .sendFetch .cmd24 true [0xFF]
     let s' : State := { s with mem := [(0x20000000, 0x5A)], op := { s.op with latAddr := 0x20000000 } }
     (nextOf (runSteps 2 s')).map (fun t => (t.trace, t.seq.pos, t.seq.k))
      = some ([.mr 0x20000000 0x5A, .x true 0x5A 0xFF], .sendFetch, 1)) := by decide

/-- R174: Capture(4) writes CAP[2] with the third trailing byte; R234: CSD[15] is the last of the CSD block. -/
theorem test_captures :
    (let s := running 1 .cmdTrail .cmd8 true [0xAA]
     (nextOf (step { s with seq := { s.seq with k := 2 } })).map (fun t => t.cmd.cap.toList) = some [0, 0, 0xAA, 0]) ∧
    (let s := running 1 .recvData .cmd9 true [0x77]
     (nextOf (step { s with seq := { s.seq with k := 15 } })).map (fun t => (t.csd[15], t.seq.pos)) = some (0x77, .recvCrc)) := by
  decide

/-- R266, R341: a budget of one busy byte ends in BusTimeout, through Abort. -/
theorem test_busy_exhausted :
    (nextOf (runSteps 2 (tight (running 3 .busyPoll .cmd25 true [0x00])))).map (fun t => (t.seq.code, t.seq.pos))
      = some (.busTimeout, .abortRelease) := by decide

/-- R173: any byte with bit 7 = 0 ends the poll; 0x80 does not. -/
theorem test_r1_poll :
    (nextOf (step (running 3 .cmdPoll .cmd24 true [0x7F]))).map (fun t => t.seq.pos) = some .cmdRelease ∧
    (nextOf (step (running 3 .cmdPoll .cmd24 true [0x80]))).map (fun t => (t.seq.pos, t.seq.k)) = some (.cmdPoll, 1) := by decide

/-- R360: irq follows DONE and its enable. -/
theorem test_irq :
    irq { State.reset with op := { State.reset.op with done := true, doneIe := true } } = true ∧
    irq { State.reset with op := { State.reset.op with done := true, progIe := true } } = false := by decide

/-- R40: an access of two bytes, or at 0x48, is refused. -/
theorem test_other_access :
    refusalOf (step (doing (.read 2 0x10))) = some (.hostAccess 2 0x10) ∧
    refusalOf (step (doing (.write 4 0x48 1))) = some (.hostAccess 4 0x48) := by decide

/-- R10: a zero budget is refused. -/
theorem test_zero_budget :
    refusalOf (step { State.reset with cfg := { State.reset.cfg with busyPollBudget := 0 } }) = some .invalidConfig := by decide

/-- R28: TRACE reads oldest first. -/
theorem test_trace_order :
    ({ State.reset with traceRev := [.cs false, .cs true] } : State).trace = [.cs true, .cs false] := by decide

/-! ### Every statement with hypotheses has a state and operands that meet them -/

theorem witness_DecodeEncodeAgree : WellFormed (.ioctlOther 0xFFFF 7 0xF) = true := by decide
theorem witness_EncodeDecodeAgree : decode .dataResponse (.byte 0x05) = .ok (.dataAccepted 0) := by decide
theorem witness_CrcByteIsTheConstantTable :
    ((0 : BitVec 6) = 0 ∧ (0 : Word) = 0) ∧ ((8 : BitVec 6) = 8 ∧ (0x1AA : Word) = 0x000001AA) ∧
    (¬((0 : BitVec 6) = 0 ∧ (1 : Word) = 0) ∧ ¬((0 : BitVec 6) = 8 ∧ (1 : Word) = 0x000001AA)) := by decide
theorem witness_StepRuns_host :
    (doing (.write 4 0x00 0xFFFFFFFF)).cfg.valid = true ∧
    (doing (.write 4 0x00 0xFFFFFFFF)).env.host = .write 4 0x00 0xFFFFFFFF :: [] ∧
    decode .hostCmd (.host 0xFFFFFFFF) = .ok (.reservedF 0xFFFFFFF) := by decide
theorem witness_StepRuns_frame :
    (calling .cmd17 5 []).env.host = [] ∧ meets (.cmd17 5 1) (calling .cmd17 5 []) := by unfold meets; decide
theorem witness_StepRuns_tick :
    (let s := running 2 .recvToken .cmd17 true [0xFE]
     let s' : State := { s with env := { s.env with host := [.tick] } }
     s'.env.host = .tick :: [] ∧ meets .tokenStartRx (popHost s')) := by unfold meets; decide
theorem witness_StepRuns_wait :
    (let s := running 3 .busyPoll .cmd24 true [0x00]
     let s' : State := { s with env := { s.env with host := [.waitDone] } }
     s'.env.host = .waitDone :: [] ∧ s'.op.done = false ∧ meets .busy s') := by unfold meets; decide
theorem witness_StepRuns_other_channels :
    meets (.r1Valid 0x7F) (running 2 .cmdPoll .cmd17 true [0x7F]) ∧
    meets .tokenMultiWrite (running 3 .txToken .cmd25 true []) ∧
    meets (.dataRejected 0xFF) (running 3 .sendResponse .cmd25 true [0xFF]) := by unfold meets; decide
theorem witness_RegisterFieldsRead_codes :
    (ErrCode.dataTokenError, (4 : BitVec 3)) ∈ [(ErrCode.ok, (0 : BitVec 3)), (.busTimeout, 1), (.illegalCommand, 2),
      (.initFailed, 3), (.dataTokenError, 4), (.protocolViolation, 5)] ∧
    ({ State.reset with op := { State.reset.op with err := .dataTokenError } } : State).op.err = .dataTokenError ∧
    (InitState.fail, (10 : BitVec 4)) ∈ [(InitState.uninitialized, (0 : BitVec 4)), (.reset, 1), (.cmd0Idle, 2),
      (.versionProbe, 3), (.v1Init, 4), (.v2Init, 5), (.voltageOk, 6), (.csdRead, 7), (.blockLenSet, 8), (.ready, 9),
      (.fail, 10)] ∧
    ({ State.reset with initState := .fail } : State).initState = .fail := by decide
theorem witness_OtherAccessesAreRefused_config :
    (let c := Config.Params.default
     let s (c : Config.Params) : State := { State.reset with cfg := c }
     (s { c with r1PollBudget := 0 }).cfg.r1PollBudget = 0 ∧ (s { c with acmd41Budget := 0 }).cfg.acmd41Budget = 0 ∧
     (s { c with tokenPollBudget := 0 }).cfg.tokenPollBudget = 0 ∧ (s { c with busyPollBudget := 0 }).cfg.busyPollBudget = 0 ∧
     (s { c with progressInterval := 0 }).cfg.progressInterval = 0) := by decide
theorem witness_OtherAccessesAreRefused :
    (doing (.write 4 0x48 0)).cfg.valid = true ∧ (doing (.write 4 0x48 0)).env.host = .write 4 0x48 0 :: [] ∧
    ((4 : Nat) ≠ 4 ∨ 0x48 % 4 ≠ 0 ∨ 0x44 < 0x48) ∧
    (doing (.read 4 0x43)).env.host = .read 4 0x43 :: [] ∧ ((4 : Nat) ≠ 4 ∨ 0x43 % 4 ≠ 0 ∨ 0x44 < 0x43) ∧
    (doing (.read 1 0x44)).env.host = .read 1 0x44 :: [] ∧ ((1 : Nat) ≠ 4 ∨ 0x44 % 4 ≠ 0 ∨ 0x44 < 0x44) := by decide
theorem witness_RegisterReadHasNoSideEffect :
    (doing (.read 4 0x44)).cfg.valid = true ∧ (doing (.read 4 0x44)).env.host = .read 4 (regOffset .intStat) :: [] := by decide
theorem witness_StatusWriteClears :
    (doing (.write 4 0x10 0x82)).cfg.valid = true ∧ (doing (.write 4 0x10 0x82)).env.host = .write 4 0x10 0x82 :: [] := by decide
theorem witness_InterruptRegisters :
    (doing (.write 4 0x44 0x3)).env.host = .write 4 0x44 0x3 :: [] ∧
    (doing (.write 4 0x40 0x3)).env.host = .write 4 0x40 0x3 :: [] ∧
    (doing (.read 4 0x40)).env.host = .read 4 0x40 :: [] ∧ (doing (.read 4 0x44)).env.host = .read 4 0x44 :: [] := by decide
theorem witness_PlainRegisterWrites_operands :
    (doing (.write 4 0x04 1)).env.host = .write 4 0x04 1 :: [] ∧ (doing (.write 4 0x08 1)).env.host = .write 4 0x08 1 :: [] ∧
    (doing (.write 4 0x0C 512)).env.host = .write 4 0x0C 512 :: [] := by decide
theorem witness_PlainRegisterWrites_readOnly :
    Reg.sectorSize ∉ [Reg.cmd, .blockNum, .bufAddr, .bufLen, .status, .intEn, .intStat] ∧
    (doing (.write 4 0x20 7)).env.host = .write 4 (regOffset .sectorSize) 7 :: [] := by decide
theorem witness_StatusWriteClears_completion :
    (let s := running 2 .finish .cmd17 false []
     let s' : State := { s with env := { s.env with host := [.writeWith 4 0x10 0x82] } }
     s'.cfg.valid = true ∧ s'.op.busy = true ∧ s'.seq.pos = .finish ∧ s'.env.host = .writeWith 4 0x10 0x82 :: []) := by decide
theorem witness_StatusWriteClears_ready :
    (let s := answered .readyDone .cmd16 0x00
     let s' : State := { s with env := { s.env with host := [.writeWith 4 0x10 0x82] } }
     s'.cfg.valid = true ∧ s'.op.busy = true ∧ (s'.seq.pos = .finish ∨ s'.seq.pos = .readyDone) ∧
     s'.env.host = .writeWith 4 0x10 0x82 :: []) := by decide
theorem witness_StatusWriteClears_intStat :
    (let s := running 2 .finish .cmd17 false []
     let s' : State := { s with env := { s.env with host := [.writeWith 4 0x44 0x3] } }
     s'.cfg.valid = true ∧ s'.op.busy = true ∧ (s'.seq.pos = .finish ∨ s'.seq.pos = .readyDone) ∧
     s'.env.host = .writeWith 4 0x44 0x3 :: []) ∧
    (let s := answered .readyDone .cmd16 0x00
     let s' : State := { s with env := { s.env with host := [.writeWith 4 0x44 0x1] } }
     s'.op.busy = true ∧ (s'.seq.pos = .finish ∨ s'.seq.pos = .readyDone) ∧ s'.env.host = .writeWith 4 0x44 0x1 :: []) := by
  decide
theorem witness_ResetAction :
    (doing .reset).cfg.valid = true ∧ (doing .reset).env.host = .reset :: [] := by decide
theorem witness_CommandIsAcceptedWhenIdle : State.reset.op.busy = false := by decide
theorem witness_CommandWhileBusyOnlySetsOvr : (running 2 .recvData .cmd17 true []).op.busy = true := by decide
theorem witness_HostOperationsFrame : ∃ t, exec (decodeHost 0x504) State.reset = .next t := ⟨_, rfl⟩
theorem witness_InitStarts : (readyWith .byte 0 0).op.busy = false ∧ State.reset.op.busy = false := by decide
theorem witness_TransfersStart_shortest :
    (let s := readyWith .byte 0 512
     s.op.busy = false ∧ s.initState = .ready ∧ s.host.bufLen.toNat % 512 = 0 ∧ s.host.bufLen ≠ 0) := by decide
theorem witness_TransfersStart_longest :
    (let s := readyWith .block 0xFFFFFFFF 0xFFFFFE00
     s.op.busy = false ∧ s.initState = .ready ∧ s.host.bufLen.toNat % 512 = 0 ∧ s.host.bufLen ≠ 0) := by decide
theorem witness_TransfersStart_forms :
    (((Instr.read 0) = .read 0 ∧ (2 : BitVec 4) = 2 ∧ Form.cmd17 = .cmd17 ∧ Form.cmd18 = .cmd18 ∧ (0x51 : Byte) = 0x51 ∧
        (0x52 : Byte) = 0x52) ∨
      ((Instr.read 0) = .write 0 ∧ (2 : BitVec 4) = 3 ∧ Form.cmd17 = .cmd24 ∧ Form.cmd18 = .cmd25 ∧ (0x51 : Byte) = 0x58 ∧
        (0x52 : Byte) = 0x59)) ∧
    (((Instr.write 0) = .read 0 ∧ (3 : BitVec 4) = 2 ∧ Form.cmd24 = .cmd17 ∧ Form.cmd25 = .cmd18 ∧ (0x58 : Byte) = 0x51 ∧
        (0x59 : Byte) = 0x52) ∨
      ((Instr.write 0) = .write 0 ∧ (3 : BitVec 4) = 3 ∧ Form.cmd24 = .cmd24 ∧ Form.cmd25 = .cmd25 ∧ (0x58 : Byte) = 0x58 ∧
        (0x59 : Byte) = 0x59)) := by decide
theorem witness_TransferPreconditionFails :
    (let s := State.reset
     s.op.busy = false ∧ s.bus.csAsserted = false ∧
       (s.initState ≠ .ready ∨ s.host.bufLen = 0 ∨ s.host.bufLen.toNat % 512 ≠ 0)) ∧
    (let s := readyWith .byte 0 0
     s.op.busy = false ∧ s.bus.csAsserted = false ∧
       (s.initState ≠ .ready ∨ s.host.bufLen = 0 ∨ s.host.bufLen.toNat % 512 ≠ 0)) ∧
    (let s := readyWith .byte 0 513
     s.op.busy = false ∧ s.bus.csAsserted = false ∧
       (s.initState ≠ .ready ∨ s.host.bufLen = 0 ∨ s.host.bufLen.toNat % 512 ≠ 0)) := by decide
theorem witness_IoctlQueriesAnswer :
    (State.reset.op.busy = false ∧ State.reset.bus.csAsserted = false ∧ State.reset.initState ≠ .ready) ∧
    ((readyWith .byte 0 0).op.busy = false ∧ (readyWith .byte 0 0).bus.csAsserted = false ∧
      (readyWith .byte 0 0).initState = .ready) := by decide
theorem witness_IoctlQueriesAnswer_forms :
    (((Instr.ioctlSectorCount 0 0) = .ioctlSectorCount 0 0 ∧ (4 : BitVec 8) = 4 ∧ (0 : Word) = State.reset.geom.sectorCount) ∨
      ((Instr.ioctlSectorCount 0 0) = .ioctlCardType 0 0 ∧ (4 : BitVec 8) = 6 ∧
        (0 : Word) = if State.reset.geom.cardType = .highCapacity then 1 else 0)) ∧
    (((Instr.ioctlCardType 0 0) = .ioctlSectorCount 0 0 ∧ (6 : BitVec 8) = 4 ∧
        (1 : Word) = (readyWith .byte 0 0).geom.sectorCount) ∨
      ((Instr.ioctlCardType 0 0) = .ioctlCardType 0 0 ∧ (6 : BitVec 8) = 6 ∧
        (1 : Word) = if (readyWith .byte 0 0).geom.cardType = .highCapacity then 1 else 0)) := by decide
theorem witness_IoctlSectorSizeAnswers : State.reset.op.busy = false := by decide
theorem witness_IoctlOtherViolates :
    WellFormed (.ioctlOther 0 3 0) = true ∧ WellFormed (.ioctlOther 0 7 0) = true ∧ State.reset.op.busy = false ∧
    State.reset.bus.csAsserted = false := by decide
theorem witness_ReservedOpViolates :
    State.reset.op.busy = false ∧ State.reset.bus.csAsserted = false ∧
    ((0xF : BitVec 4), Instr.reservedF 0) ∈ [((0x0 : BitVec 4), Instr.reserved0 0), (0x5, .reserved5 0), (0x6, .reserved6 0),
      (0x7, .reserved7 0), (0x8, .reserved8 0), (0x9, .reserved9 0), (0xA, .reservedA 0), (0xB, .reservedB 0),
      (0xC, .reservedC 0), (0xD, .reservedD 0), (0xE, .reservedE 0), (0xF, .reservedF 0)] := by decide
theorem witness_FramesFrame :
    formOfInstr (.cmd25 0 0x01) = some .cmd25 ∧ ∃ t, exec (.cmd25 0 0x01) State.reset = .next t := ⟨by decide, _, rfl⟩

/-- CMD8 (Capture(4), release) answered on poll 1, ACMD41 (skip) on the last poll of a budget of 1, CMD17 (no release) on the
last poll of the default budget. -/
theorem witness_SendCommandWithAnswer_cmd8 :
    (let s := calling .cmd8 0x1AA [0xFF, 0xFF, 0xFF, 0xFF, 0xFF, 0xFF, 0x01, 0x00]
     s.cfg.valid = true ∧ s.env.host = [] ∧ meets .cmd8 s ∧ formOfInstr .cmd8 = some s.seq.form ∧
     0 < s.cfg.r1PollBudget.toNat ∧ 4 = trailingCount (formTrailing s.seq.form) ∧
     (∀ k, k < 0 → (misoAt (6 + skipCount s + k) s).getLsbD 7 = true) ∧
     (misoAt (6 + skipCount s + 0) s).getLsbD 7 = false) := by
  unfold meets; decide
theorem witness_SendCommandWithAnswer_acmd41 :
    (let s := tight (calling .acmd41V1 0 [0xFF, 0xFF, 0xFF, 0xFF, 0xFF, 0xFF, 0x00, 0x00])
     s.cfg.valid = true ∧ s.env.host = [] ∧ meets (.acmd41V1 0x01) s ∧ formOfInstr (.acmd41V1 0x01) = some s.seq.form ∧
     0 < s.cfg.r1PollBudget.toNat ∧ 0 = trailingCount (formTrailing s.seq.form) ∧
     (∀ k, k < 0 → (misoAt (6 + skipCount s + k) s).getLsbD 7 = true) ∧
     (misoAt (6 + skipCount s + 0) s).getLsbD 7 = false) := by
  unfold meets; decide
theorem witness_SendCommandWithAnswer_lastPoll :
    (let c := calling .cmd17 5 ([0, 0, 0, 0, 0, 0] ++ [0xFF, 0x80, 0x7F])
     let s : State := { c with cfg := { c.cfg with r1PollBudget := 3 } }
     s.cfg.valid = true ∧ s.env.host = [] ∧ meets (.cmd17 5 0x01) s ∧ formOfInstr (.cmd17 5 0x01) = some s.seq.form ∧
     2 < s.cfg.r1PollBudget.toNat ∧ 0 = trailingCount (formTrailing s.seq.form) ∧
     (∀ k, k < 2 → (misoAt (6 + skipCount s + k) s).getLsbD 7 = true) ∧
     (misoAt (6 + skipCount s + 2) s).getLsbD 7 = false) := by
  unfold meets; decide
theorem witness_SendCommandTimesOut :
    (let s := tight (calling .cmd17 0 [0, 0, 0, 0, 0, 0, 0x80])
     s.cfg.valid = true ∧ s.env.host = [] ∧ meets (.cmd17 0 0x01) s ∧ formOfInstr (.cmd17 0 0x01) = some s.seq.form ∧
     1 = s.cfg.r1PollBudget.toNat ∧ (∀ k, k < 1 → (misoAt (6 + skipCount s + k) s).getLsbD 7 = true)) := by
  unfold meets; decide
theorem witness_ValidR1EndsThePoll :
    (running 1 .cmdPoll .cmd8 true []).seq.form ∈ [Form.cmd8, .cmd58Loop, .cmd58Final] ∧
    (running 1 .cmdPoll .cmd0 true []).seq.form ∈ [Form.cmd0, .cmd55, .acmd41V1, .acmd41V2, .cmd16, .cmd12, .cmd24, .cmd25] ∧
    (running 2 .cmdPoll .cmd17 true []).seq.form ∈ [Form.cmd9, .cmd17, .cmd18] ∧
    (running 2 .cmdPoll .cmd17 true []).bus.csAsserted = true ∧ (running 2 .cmdPoll .cmd17 true []).seq.form ≠ .cmd9 := by decide
theorem witness_AbortReleasesAndCompletes :
    (let s := running 2 .abortRelease .cmd17 true [0xFF]
     s.cfg.valid = true ∧ s.env.host = [] ∧ s.seq.pos = .abortRelease ∧ s.bus.csAsserted = true ∧ s.op.latOp ≠ 0x1) := by decide
theorem witness_AbortReleasesAndCompletes_init :
    (let s := running 1 .abortRelease .cmd9 true [0xFF]
     s.cfg.valid = true ∧ s.env.host = [] ∧ s.seq.pos = .abortRelease ∧ s.bus.csAsserted = true ∧ s.op.latOp = 0x1 ∧
     s.op.attempt ≠ 8 ∧ ({ s with op := { s.op with attempt := 8 } } : State).op.attempt = 8) := by decide
theorem witness_PowerUpThenCmd0 :
    (let s := answered .initClock .cmd0 0
     s.cfg.valid = true ∧ s.env.host = [] ∧ s.seq.pos = .initClock ∧ s.bus.csAsserted = false) := by decide
theorem witness_Cmd0Outcome_r1 :
    (let s := answered .cmdReleaseClock .cmd0 0x01
     s.cfg.valid = true ∧ s.env.host = [] ∧ returns (some 0x01) s ∧ s.seq.form = .cmd0 ∧ s.bus.csAsserted = false) := by
  unfold returns; decide
theorem witness_Cmd0Outcome_timeout :
    (let s := answered .cmdTimeoutClock .cmd0 0
     let s' : State := { s with op := { s.op with attempt := 8 } }
     s'.cfg.valid = true ∧ s'.env.host = [] ∧ returns none s' ∧ s'.seq.form = .cmd0 ∧ s'.bus.csAsserted = false ∧
     s'.op.attempt = 8 ∧ s.op.attempt ≠ 8) := by
  unfold returns; decide
theorem witness_BetweenAttempts :
    (let s := answered .retryDeassert .cmd0 0
     s.cfg.valid = true ∧ s.env.host = [] ∧ s.seq.pos = .retryDeassert ∧ s.bus.csAsserted = false) := by decide
theorem witness_MomentStatesPass :
    (let s := answered .cmd0Idle .cmd0 0x01
     s.cfg.valid = true ∧ s.env.host = [] ∧ s.seq.pos = .cmd0Idle) ∧
    (let s := answered .voltageOk .acmd41V1 0x00
     s.cfg.valid = true ∧ s.env.host = [] ∧ s.seq.pos = .voltageOk) := by decide
theorem witness_VersionProbeBranches :
    (let s := answered .cmdReleaseClock .cmd8 0x05
     s.cfg.valid = true ∧ s.env.host = [] ∧ returns (some 0x05) s ∧ s.seq.form = .cmd8 ∧ s.bus.csAsserted = false) ∧
    returns (some 0x01) (answered .cmdReleaseClock .cmd8 0x01) ∧ returns none (answered .cmdTimeoutClock .cmd8 0x01) := by
  unfold returns; decide
theorem witness_Acmd41LoopStep_done :
    (let s := answered .cmdReleaseClock .acmd41V1 0x00
     s.cfg.valid = true ∧ s.env.host = [] ∧ returns (some 0x00) s ∧ s.seq.form = .acmd41V1 ∧ s.bus.csAsserted = false) ∧
    (let s := answered .cmdReleaseClock .acmd41V2 0x00
     returns (some 0x00) s ∧ s.seq.form = .acmd41V2) := by
  unfold returns; decide
theorem witness_Acmd41LoopStep_repeat :
    (let s := answered .cmdReleaseClock .acmd41V2 0x01
     returns (some 0x01) s ∧ s.seq.iter + 1 < s.cfg.acmd41Budget.toNat) ∧
    (let s := tight (answered .cmdTimeoutClock .acmd41V1 0x00)
     s.cfg.valid = true ∧ returns none s ∧ s.cfg.acmd41Budget.toNat ≤ s.seq.iter + 1) := by
  unfold returns; decide
theorem witness_Acmd41LoopStep_cmd58 :
    (let s := answered .cmdReleaseClock .cmd58Loop 0x00
     s.cfg.valid = true ∧ s.env.host = [] ∧ returns (some 0x00) s ∧ s.bus.csAsserted = false ∧ s.seq.form = .cmd58Loop) ∧
    returns none (answered .cmdTimeoutClock .cmd58Loop 0x00) := by
  unfold returns; decide
theorem witness_Acmd41LoopStep_cmd55 :
    (let s : State := { answered .cmdReleaseClock .cmd55 0x05 with initState := .v1Init }
     s.cfg.valid = true ∧ s.env.host = [] ∧ returns (some 0x05) s ∧ s.bus.csAsserted = false ∧ s.seq.form = .cmd55 ∧
     s.initState = .v1Init) ∧
    (let s : State := { answered .cmdTimeoutClock .cmd55 0x00 with initState := .v2Init }
     s.cfg.valid = true ∧ s.env.host = [] ∧ returns none s ∧ s.bus.csAsserted = false ∧ s.seq.form = .cmd55 ∧
     s.initState = .v2Init) := by
  unfold returns; decide
theorem witness_CcsChoosesAddressUnit :
    (let s := answered .cmdReleaseClock .cmd58Final 0x00
     s.cfg.valid = true ∧ s.env.host = [] ∧ returns (some 0x00) s ∧ s.seq.form = .cmd58Final ∧ s.bus.csAsserted = false) ∧
    returns (some 0x01) (answered .cmdReleaseClock .cmd58Final 0x01) := by
  unfold returns; decide
theorem witness_BlockLenSetReachesReady :
    (let s := answered .cmdReleaseClock .cmd16 0x00
     s.cfg.valid = true ∧ s.env.host = [] ∧ returns (some 0x00) s ∧ s.seq.form = .cmd16 ∧ s.bus.csAsserted = false) ∧
    returns none (answered .cmdTimeoutClock .cmd16 0x00) := by
  unfold returns; decide
theorem witness_CsdBlockIsParsed :
    (let s := answered .recvReleaseClock .cmd9 0
     s.cfg.valid = true ∧ s.env.host = [] ∧ s.seq.pos = .recvReleaseClock ∧ s.seq.form = .cmd9 ∧ s.csd[0].toNat / 64 ≠ 1) ∧
    (let s := answered .recvReleaseClock .cmd9 0
     ({ s with csd := s.csd.set 0 0x40 } : State).csd[0].toNat / 64 = 1) := by decide
theorem witness_TransferCommandOutcome :
    (let s := answered .cmdTimeoutClock .cmd17 0
     s.cfg.valid = true ∧ s.env.host = [] ∧ returns none s ∧
     s.seq.form ∈ [Form.cmd9, .cmd17, .cmd18, .cmd12, .cmd24, .cmd25] ∧ s.bus.csAsserted = false) ∧
    returns (some 0x00) (answered .cmdReleaseClock .cmd12 0x00) ∧
    returns (some 0x00) (answered .cmdReleaseClock .cmd24 0x00) ∧
    returns (some 0x00) (answered .cmdReleaseClock .cmd25 0x00) ∧
    returns (some 0x00) (answered .cmdReleaseClock .cmd18 0x00) ∧
    returns (some 0x04) (answered .cmdReleaseClock .cmd24 0x04) := by
  unfold returns; decide
theorem witness_TransferCommandOutcome_cmd9 :
    (let s := answered .cmdTimeoutClock .cmd9 0
     s.cfg.valid = true ∧ s.env.host = [] ∧ returns none s ∧ s.seq.form = .cmd9 ∧ s.bus.csAsserted = false) ∧
    returns (some 0x01) (answered .cmdReleaseClock .cmd9 0x01) ∧
    returns (some 0x00) (answered .cmdReleaseClock .cmd9 0x00) := by
  unfold returns; decide
theorem witness_TokensComplete_data :
    (let s := running 3 .sendFetch .cmd25 true []
     s.cfg.valid = true ∧ framerAlone s = true ∧ s.seq.pos = .sendFetch ∧ s.seq.k = 0) := by decide
theorem witness_ByteRowsFrame :
    channelOf (.dataAccepted 7) ∈ [Channel.r1Poll, .tokenPoll, .tokenOut, .dataResponse, .busyPoll] ∧
    channelOf .tokenStopTran ≠ .dataResponse ∧ channelOf .busy ≠ .r1Poll ∧
    ∃ t, exec (.dataAccepted 7) (running 3 .sendResponse .cmd24 true [0xE5]) = .next t := ⟨by decide, by decide, by decide, _, rfl⟩
theorem witness_SingleWriteAccepted : (running 3 .sendResponse .cmd24 true []).seq.form = .cmd24 := by decide
theorem witness_ChunkAccepted :
    (let s := running 3 .sendResponse .cmd25 true []
     s.seq.form = .cmd25 ∧ s.op.blocksDone.toNat < blockCount s ∧ s.cfg.multiWriteBlockBusy = false) ∧
    (let s := running 3 .sendResponse .cmd25 true []
     let s' : State := { s with cfg := { s.cfg with multiWriteBlockBusy := true }, op := { s.op with blocksDone := 1 } }
     s'.op.blocksDone.toNat < blockCount s' ∧ s'.cfg.multiWriteBlockBusy = true) := by decide
theorem witness_RejectedResponseRaises : WellFormed (.dataRejected 0x0D) = true ∧ WellFormed (.dataRejected 0xFF) = true := by decide
theorem witness_WaitTokenFinds :
    (let s := running 2 .recvToken .cmd17 true [0xFF, 0x0B, 0xFE, 0x11]
     s.cfg.valid = true ∧ s.env.host = [] ∧ s.seq.pos = .recvToken ∧ s.seq.k = 0 ∧
     s.env.miso = [0xFF, 0x0B] ++ 0xFE :: [0x11] ∧ (∀ x ∈ ([0xFF, 0x0B] : List Byte), x ≠ 0xFE) ∧
     ([0xFF, 0x0B] : List Byte).length < s.cfg.tokenPollBudget.toNat) := by decide
theorem witness_TokensComplete_csAssert :
    (let s := running 2 .recvAssert .cmd18 false []
     s.cfg.valid = true ∧ s.env.host = [] ∧ (s.seq.pos = .recvAssert ∨ s.seq.pos = .txAssert) ∧ s.seq.pos = .recvAssert) ∧
    (let s := running 3 .txAssert .cmd25 true []
     s.cfg.valid = true ∧ s.env.host = [] ∧ (s.seq.pos = .recvAssert ∨ s.seq.pos = .txAssert) ∧ s.seq.pos = .txAssert) := by
  decide
theorem witness_TokensComplete_filler :
    (let s := running 3 .stopFiller .cmd25 true []
     s.cfg.valid = true ∧ s.env.host = [] ∧ s.seq.pos = .stopFiller) := by decide
theorem witness_WaitTokenTimesOut :
    (let s := tight (running 2 .recvToken .cmd18 true [0xFD, 0xFE])
     s.cfg.valid = true ∧ s.env.host = [] ∧ s.seq.pos = .recvToken ∧ s.seq.k = 0 ∧ 1 = s.cfg.tokenPollBudget.toNat ∧
     (∀ k, k < 1 → misoAt k s ≠ 0xFE) ∧ s.bus.csAsserted = true ∧ s.seq.form ≠ .cmd9 ∧ s.op.latOp ≠ 0x1) := by decide
theorem witness_WaitTokenTimesOut_cmd9 :
    (let s := tight (running 1 .recvToken .cmd9 true [0xFF])
     s.cfg.valid = true ∧ s.env.host = [] ∧ s.seq.pos = .recvToken ∧ s.seq.k = 0 ∧ 1 = s.cfg.tokenPollBudget.toNat ∧
     (∀ k, k < 1 → misoAt k s ≠ 0xFE) ∧ s.bus.csAsserted = true ∧ s.seq.form = .cmd9 ∧ s.op.latOp = 0x1) := by decide

/-- After a single block, a busy card is ready on poll 3; after a chunk, at once. -/
theorem witness_BusyWaitEnds :
    (let s := running 3 .busyPoll .cmd24 true [0x00, 0x00, 0x01, 0xFF]
     let s' : State := { s with seq := { s.seq with tok := 0xFE } }
     s'.cfg.valid = true ∧ s'.env.host = [] ∧ s'.seq.pos = .busyPoll ∧ s'.seq.k = 0 ∧ 2 < s'.cfg.busyPollBudget.toNat ∧
     (∀ k, k < 2 → misoAt k s' = 0x00) ∧ misoAt 2 s' ≠ 0x00 ∧ s'.seq.tok ≠ 0xFC) := by decide
theorem witness_BusyWaitEnds_chunk :
    (let s := tight (running 3 .busyPoll .cmd25 true [0xFF])
     s.cfg.valid = true ∧ s.env.host = [] ∧ s.seq.pos = .busyPoll ∧ s.seq.k = 0 ∧ 0 < s.cfg.busyPollBudget.toNat ∧
     (∀ k, k < 0 → misoAt k s = 0x00) ∧ misoAt 0 s ≠ 0x00 ∧ s.seq.tok = 0xFC ∧ s.op.blocksDone.toNat + 1 < blockCount s) ∧
    (let s := running 3 .busyPoll .cmd25 true [0xFF]
     let s' : State := { s with op := { s.op with blocksDone := 1 } }
     s'.op.blocksDone.toNat < blockCount s' ∧ s'.op.blocksDone.toNat + 1 = blockCount s') := by decide
theorem witness_BusyWaitEnds_exhausted :
    (let s := tight (running 3 .busyPoll .cmd25 true [0x00, 0xFF])
     s.cfg.valid = true ∧ s.env.host = [] ∧ s.seq.pos = .busyPoll ∧ s.seq.k = 0 ∧
     (∀ k, k < s.cfg.busyPollBudget.toNat → misoAt k s = 0x00) ∧ s.bus.csAsserted = true ∧ s.op.latOp ≠ 0x1) :=
  ⟨by decide, rfl, rfl, rfl, by decide, rfl, by decide⟩
theorem witness_ReceivedBlockIsStored :
    (let s := running 2 .recvData .cmd18 true []
     s.cfg.valid = true ∧ framerAlone s = true ∧ s.seq.pos = .recvData ∧ s.seq.k = 0 ∧ s.seq.form ≠ .cmd9 ∧
     Memory.wf s.mem = true) ∧
    (let s := running 1 .recvData .cmd9 true []
     s.cfg.valid = true ∧ framerAlone s = true ∧ s.seq.pos = .recvData ∧ s.seq.k = 0 ∧ s.seq.form = .cmd9) ∧
    (let s := running 2 .recvCrc .cmd17 true []
     s.cfg.valid = true ∧ framerAlone s = true ∧ s.seq.pos = .recvCrc ∧ s.seq.k = 0 ∧ s.bus.csAsserted = true) := by decide
theorem witness_ReceivedBlockIsStored_end :
    (let s := running 2 .recvReleaseClock .cmd17 false []
     s.cfg.valid = true ∧ framerAlone s = true ∧ s.seq.pos = .recvReleaseClock ∧ s.seq.form = .cmd17) ∧
    (let s := running 2 .recvReleaseClock .cmd18 false []
     s.cfg.valid = true ∧ framerAlone s = true ∧ s.seq.pos = .recvReleaseClock ∧ s.seq.form = .cmd18 ∧
     s.op.blocksDone.toNat < blockCount s ∧ s.op.blocksDone.toNat + 1 < blockCount s) ∧
    (let s := running 2 .recvReleaseClock .cmd18 false []
     let s' : State := { s with op := { s.op with blocksDone := 1 } }
     s'.op.blocksDone.toNat < blockCount s' ∧ s'.op.blocksDone.toNat + 1 = blockCount s') := by decide
theorem witness_RefusedMemoryStopsTheFramer :
    (let s := running 2 .recvStore .cmd17 true []
     let s' : State := { s with env := { s.env with refused := [(0, 1)] } }
     s'.cfg.valid = true ∧ s'.env.host = [] ∧ (s'.seq.pos = .recvStore ∨ s'.seq.pos = .sendFetch) ∧
     memAdmits (blockByteAddress s') s' = false) := by decide

/-- A running READ, a running WRITE and a running INIT that meet the invariant. -/
theorem witness_Inv_running :
    Inv (running 2 .recvData .cmd17 true []) = true ∧ Inv (running 3 .txToken .cmd25 true []) = true ∧
    Inv (answered .cmdReleaseClock .cmd8 0x05) = true := by decide
theorem witness_StepKeepsInv_held :
    (let s := running 3 .txAssert .cmd24 false []
     let s' : State := { s with seq := { s.seq with tok := 0xFE } }
     csHeld s' = true ∧ (nextOf (step s')).map (fun t => (csHeld t, t.bus.csAsserted)) = some (true, true)) ∧
    csHeld (running 3 .txToken .cmd25 false []) = false := by decide
theorem witness_StepKeepsInv :
    Inv (running 3 .txToken .cmd25 true [0xFF]) = true ∧ ∃ t, step (running 3 .txToken .cmd25 true [0xFF]) = .next t :=
  ⟨by decide, _, rfl⟩
theorem witness_StepKeepsMemoryCanonical :
    Memory.wf (running 2 .recvStore .cmd17 true []).mem = true ∧ ∃ t, step (running 2 .recvStore .cmd17 true []) = .next t :=
  ⟨by decide, _, rfl⟩
theorem witness_FramerNeverStops :
    (let s := running 2 .recvStore .cmd18 true []
     Inv s = true ∧ s.cfg.valid = true ∧ framerAlone s = true) := by decide
theorem witness_EveryOperationEnds :
    (let s := running 2 .recvStore .cmd18 true []
     Inv s = true ∧ s.cfg.valid = true ∧ framerAlone s = true ∧ s.op.busy = true) := by decide
theorem witness_MemoryWrittenOnlyInReadBuffer :
    (let s := running 3 .sendData .cmd25 true [0xFF]
     Inv s = true ∧ Memory.wf s.mem = true ∧ (∃ t, step s = .next t) ∧ s.op.latOp ≠ 0x2) :=
  ⟨by decide, by decide, ⟨_, rfl⟩, by decide⟩
theorem witness_MemoryWrittenOnlyInReadBuffer_host :
    ∀ x v rest, (running 3 .sendData .cmd25 true [0xFF]).env.host ≠ .memWrite x v :: rest := by
  intro x v rest h
  exact absurd h (by simp [running, State.reset])
theorem witness_OnlyInitChangesCardView :
    Inv (running 2 .recvCrc .cmd18 true [0xFF]) = true ∧
    (∀ rest, (running 2 .recvCrc .cmd18 true [0xFF]).env.host ≠ .reset :: rest) ∧
    ∃ t, step (running 2 .recvCrc .cmd18 true [0xFF]) = .next t :=
  ⟨by decide, by intro rest h; exact absurd h (by simp [running, State.reset]), _, rfl⟩
theorem witness_TraceGrowsByOneEvent :
    (∀ rest, (running 2 .recvAssert .cmd18 false []).env.host ≠ .reset :: rest) ∧
    ∃ t, step (running 2 .recvAssert .cmd18 false []) = .next t :=
  ⟨by intro rest h; exact absurd h (by simp [running, State.reset]), _, rfl⟩

end Sys2Proof.Tests
end

section
/-! SUPPORT. What one turn of the machine can be: the instructions that the framer's position can ask for, what a host
write can do, and what the operations that end or begin something keep. -/

namespace Sys2Proof.Proofs
open Sys2Proof.Machine Sys2Proof.Laws

/-! ### The instruction at the framer's position -/

/-- What a decoder accepts, it accepts as a frame's instruction. -/
def OnlyFrames (x : Except Reject Instr) : Prop := ∀ i, x = .ok i → ∃ f, formOfInstr i = some f

theorem OnlyFrames.ok {i : Instr} {f : Form} (h : formOfInstr i = some f) : OnlyFrames (.ok i) := by
  rintro _ ⟨⟩
  exact ⟨f, h⟩

theorem OnlyFrames.error (r : Reject) : OnlyFrames (.error r) := nofun

theorem OnlyFrames.ite {c : Prop} [Decidable c] {x y : Except Reject Instr} (hx : OnlyFrames x) (hy : OnlyFrames y) :
    OnlyFrames (if c then x else y) := iteInduction (fun _ => hx) fun _ => hy

/-- R142: one branch for each frame form, CMD58's two forms in one, and the rejection. -/
theorem onlyFrames_decodeFrame (final : Bool) (w : FrameWord) : OnlyFrames (decodeFrame final w) := by
  unfold decodeFrame
  iterate 5 refine .ite (.ok rfl) ?_
  refine .ite (by cases final <;> exact .ok rfl) ?_
  iterate 7 refine .ite (.ok rfl) ?_
  exact .error _

theorem eq_ok_of_toOption_eq_some {x : Except Reject Instr} {i : Instr} (h : x.toOption = some i) : x = .ok i := by
  cases x <;> cases h
  rfl

/-- A frame is met only at `cmdIssue`, and each byte row only at the exchange that decides by it. -/
theorem fetched_cases {s : State} {i : Instr} (h : fetched s = some i) :
    (s.seq.pos = .cmdIssue ∧ ∃ f, formOfInstr i = some f) ∨
    (s.seq.pos = .cmdPoll ∧ ∃ low, i = .r1Valid low) ∨
    (s.seq.pos = .recvToken ∧ i = .tokenStartRx) ∨
    (s.seq.pos = .txToken ∧ (i = .tokenStartTx ∨ i = .tokenMultiWrite ∨ i = .tokenStopTran)) ∨
    (s.seq.pos = .sendResponse ∧ ((∃ hi, i = .dataAccepted hi) ∨ ∃ d, i = .dataRejected d)) ∨
    (s.seq.pos = .busyPoll ∧ i = .busy) := by
  unfold fetched at h
  split at h
  case h_1 hpos => exact .inl ⟨hpos, onlyFrames_decodeFrame _ _ i (eq_ok_of_toOption_eq_some h)⟩
  case h_2 hpos =>
    unfold decodeR1 at h
    split at h <;> cases h
    simp [hpos]
  case h_3 hpos =>
    unfold decodeRxToken at h
    split at h <;> cases h
    simp [hpos]
  case h_4 hpos =>
    unfold decodeTxToken at h
    split_ifs at h <;> cases h <;> simp [hpos]
  case h_5 hpos =>
    unfold decodeResponse at h
    split at h <;> cases h <;> simp [hpos]
  case h_6 hpos =>
    unfold decodeBusy at h
    split at h <;> cases h
    simp [hpos]
  case h_7 => cases h

/-- Every frame's meaning is SendCommand's call for its form (R142, R172). -/
theorem exec_of_frame {i : Instr} {f : Form} (h : formOfInstr i = some f) (s : State) :
    ∃ arg crc, exec i s = .next (beginCommand f arg crc s) := by
  cases i <;> cases h <;> exact ⟨_, _, rfl⟩

/-! ### Ends of an operation and of an attempt -/

@[simp] theorem raise_op (c : ErrCode) (s : State) : (raise c s).op = s.op := by unfold raise; split <;> rfl
@[simp] theorem raise_initState (c : ErrCode) (s : State) : (raise c s).initState = s.initState := by
  unfold raise; split <;> rfl
@[simp] theorem raise_geom (c : ErrCode) (s : State) : (raise c s).geom = s.geom := by unfold raise; split <;> rfl

@[simp] theorem raiseAtOnce_initState (c : ErrCode) (s : State) : (raiseAtOnce c s).initState = s.initState := by
  unfold raiseAtOnce; split <;> simp
@[simp] theorem raiseAtOnce_geom (c : ErrCode) (s : State) : (raiseAtOnce c s).geom = s.geom := by
  unfold raiseAtOnce; split <;> simp

@[simp] theorem attemptFailed_op (s : State) : (attemptFailed s).op = s.op := by unfold attemptFailed; split <;> simp
@[simp] theorem initFail_op (s : State) : (initFail s).op = s.op := by unfold initFail; split <;> simp
@[simp] theorem nextIteration_op (s : State) : (nextIteration s).op = s.op := by
  unfold nextIteration v1Iteration v2Iteration
  split
  · dsimp only
    split <;> simp
  · simp

/-! ### Counting blocks (R276) -/

@[simp] theorem progress_latOp (m : Nat) (s : State) : (progress m s).op.latOp = s.op.latOp := by
  unfold progress; split <;> rfl
@[simp] theorem progress_initState (m : Nat) (s : State) : (progress m s).initState = s.initState := by
  unfold progress; split <;> rfl
@[simp] theorem progress_geom (m : Nat) (s : State) : (progress m s).geom = s.geom := by unfold progress; split <;> rfl

/-! ### Host writes -/

@[simp] theorem writeReg_seq (r : Reg) (v : Word) (s : State) : (writeReg r v s).seq = s.seq := by cases r <;> rfl
@[simp] theorem writeReg_initState (r : Reg) (v : Word) (s : State) : (writeReg r v s).initState = s.initState := by
  cases r <;> rfl
@[simp] theorem writeReg_geom (r : Reg) (v : Word) (s : State) : (writeReg r v s).geom = s.geom := by cases r <;> rfl
@[simp] theorem writeReg_busy (r : Reg) (v : Word) (s : State) : (writeReg r v s).op.busy = s.op.busy := by
  cases r <;> rfl
@[simp] theorem writeReg_latOp (r : Reg) (v : Word) (s : State) : (writeReg r v s).op.latOp = s.op.latOp := by
  cases r <;> rfl

/-- A host write that is taken is a write to CMD or a plain register write (R40, R140). -/
theorem hostWrite_cases {bytes offset : Nat} {v : Word} {s t : State} (h : hostWrite bytes offset v s = .next t) :
    t = hostCommand v (dispatchOf v) s ∨ ∃ r, t = writeReg r v s := by
  unfold hostWrite at h
  split at h
  · rw [exec_decodeHost] at h
    cases h
    exact .inl rfl
  · cases h
    exact .inr ⟨_, rfl⟩
  · cases h

theorem checkTransfer_cases (body : State → State) (s : State) :
    checkTransfer body s = body s ∨ checkTransfer body s = raiseAtOnce .protocolViolation s := by
  by_cases h : s.initState = .ready ∧ lengthOk s = true
  · exact .inl (checkTransfer_ok body s h.1 h.2)
  · exact .inr (checkTransfer_fails body s h)

theorem ioctlWhenReady_cases (answer : State → Word) (s : State) :
    ioctlWhenReady answer s = ioctlAnswer (answer s) s ∨
      ioctlWhenReady answer s = raiseAtOnce .protocolViolation s := by
  by_cases h : s.initState = .ready
  · exact .inl (ioctlWhenReady_ready answer s h)
  · exact .inr (ioctlWhenReady_not answer s h)

end Sys2Proof.Proofs
end

section
/-! SUPPORT. The host register map (10_state R40 to R58): the step of a register access, and the fields that a read of each
composed register shows. -/

namespace Sys2Proof.Proofs
open Sys2Proof.Machine Sys2Proof.Laws

/-! ### The step of a register access -/

@[simp] theorem accessedReg_regOffset (r : Reg) : accessedReg 4 (regOffset r) = some r := by cases r <;> rfl

theorem popHost_of_cons {s : State} {a : HostAction} {rest : List HostAction} (h : s.env.host = a :: rest) :
    popHost s = { s with env := { s.env with host := rest } } := by simp [popHost, h]

@[simp] theorem readReg_popHost (r : Reg) (s : State) : readReg r (popHost s) = readReg r s := by cases r <;> rfl

theorem hostWrite_regOffset {r : Reg} (hr : r ≠ .cmd) (v : Word) (s : State) :
    hostWrite 4 (regOffset r) v s = .next (writeReg r v s) := by
  rw [hostWrite, accessedReg_regOffset]
  cases r with
  | cmd => exact absurd rfl hr
  | _ => rfl

/-- A host write to a register other than CMD is that register's write (R40). -/
theorem step_write_regOffset {r : Reg} (hr : r ≠ .cmd) {v : Word} {rest : List HostAction} {s : State}
    (hv : s.cfg.valid = true) (hh : s.env.host = .write 4 (regOffset r) v :: rest) :
    step s = .next (writeReg r v { s with env := { s.env with host := rest } }) := by
  rw [step_of_valid s hv, turn_action s _ rest hh nofun, ← popHost_of_cons hh]
  exact hostWrite_regOffset hr v (popHost s)

/-- In the same step as a primitive, the write comes first (R50, R362; log 12). -/
theorem step_writeWith_regOffset {r : Reg} (hr : r ≠ .cmd) {v : Word} {rest : List HostAction} {s : State}
    (hv : s.cfg.valid = true) (hb : s.op.busy = true) (hh : s.env.host = .writeWith 4 (regOffset r) v :: rest) :
    step s = framerTurn (writeReg r v { s with env := { s.env with host := rest } }) := by
  rw [step_of_valid s hv, turn_action s _ rest hh nofun, ← popHost_of_cons hh]
  simp [hostTurn, hostWriteWith, hostWrite_regOffset hr, hb]

/-- A host read returns the register and changes nothing of the block (R96). -/
theorem step_read_regOffset {r : Reg} {rest : List HostAction} {s : State} (hv : s.cfg.valid = true)
    (hh : s.env.host = .read 4 (regOffset r) :: rest) :
    step s = .next { s with env := { s.env with host := rest, rdata := readReg r s } } := by
  rw [step_of_valid s hv, turn_action s _ rest hh nofun]
  simp only [hostTurn, hostRead, accessedReg_regOffset, readReg_popHost]
  rw [popHost_of_cons hh]

/-! ### The fields of a composed register -/

theorem statusWord_bits (s : State) :
    (statusWord s).getLsbD 0 = s.op.busy ∧ (statusWord s).getLsbD 1 = s.op.done ∧
      (statusWord s).getLsbD 2 = decide (s.initState = .ready) ∧ (statusWord s).getLsbD 3 = s.bus.csAsserted ∧
      (statusWord s).getLsbD 4 = s.op.resValid ∧ (statusWord s).getLsbD 7 = s.op.ovr ∧
      (statusWord s).getLsbD 11 = false := by
  simp only [statusWord, BitVec.getLsbD_append, flagBit, BitVec.getLsbD_ofBool]
  simp

theorem statusWord_slices (s : State) :
    (statusWord s).extractLsb' 8 3 = errCode s.op.err ∧ (statusWord s).extractLsb' 12 4 = initCode s.initState ∧
      (statusWord s).extractLsb' 16 4 = s.op.attempt ∧ (statusWord s).extractLsb' 5 2 = 0 ∧
      (statusWord s).extractLsb' 20 12 = 0 := by
  simp (disch := omega) only [statusWord, BitVec.extractLsb'_append_eq_of_add_le, BitVec.extractLsb'_append_eq_of_le]
  refine ⟨?_, ?_, ?_, rfl, rfl⟩ <;> simp

theorem geomWord_fields (s : State) :
    (geomWord s).extractLsb' 0 1 = cardTypeBit s.geom.cardType ∧
      (geomWord s).extractLsb' 1 1 = addressUnitBit s.geom.addressUnit ∧
      (geomWord s).getLsbD 2 = s.geom.geomValid ∧ (geomWord s).extractLsb' 3 29 = 0 := by
  simp (disch := omega) only [geomWord, BitVec.getLsbD_append, flagBit, BitVec.getLsbD_ofBool,
    BitVec.extractLsb'_append_eq_of_add_le, BitVec.extractLsb'_append_eq_of_le]
  refine ⟨?_, ?_, ?_, rfl⟩ <;> simp

theorem geomWord_cardType (s : State) : (geomWord s).getLsbD 0 = decide (s.geom.cardType = .highCapacity) := by
  simp only [geomWord, BitVec.getLsbD_append]
  cases s.geom.cardType <;> rfl

theorem geomWord_addressUnit (s : State) : (geomWord s).getLsbD 1 = decide (s.geom.addressUnit = .block) := by
  simp only [geomWord, BitVec.getLsbD_append]
  cases s.geom.addressUnit <;> rfl

theorem lastCmdWord_fields (s : State) :
    (lastCmdWord s).extractLsb' 0 6 = s.cmd.lastIdx ∧ (lastCmdWord s).extractLsb' 8 8 = s.cmd.lastR1 ∧
      (lastCmdWord s).getLsbD 16 = s.cmd.lastTo ∧ (lastCmdWord s).getLsbD 31 = s.cmd.lastValid ∧
      (lastCmdWord s).extractLsb' 6 2 = 0 ∧ (lastCmdWord s).extractLsb' 17 14 = 0 := by
  simp (disch := omega) only [lastCmdWord, BitVec.getLsbD_append, flagBit, BitVec.getLsbD_ofBool,
    BitVec.extractLsb'_append_eq_of_add_le, BitVec.extractLsb'_append_eq_of_le]
  refine ⟨?_, ?_, ?_, ?_, rfl, rfl⟩ <;> simp

theorem intEnWord_fields (s : State) :
    (intEnWord s).getLsbD 0 = s.op.doneIe ∧ (intEnWord s).getLsbD 1 = s.op.progIe ∧
      (intEnWord s).extractLsb' 2 30 = 0 := by
  simp (disch := omega) only [intEnWord, BitVec.getLsbD_append, flagBit, BitVec.getLsbD_ofBool,
    BitVec.extractLsb'_append_eq_of_le]
  refine ⟨?_, ?_, rfl⟩ <;> simp

theorem intStatWord_fields (s : State) :
    (intStatWord s).getLsbD 0 = s.op.done ∧ (intStatWord s).getLsbD 1 = s.op.progIp ∧
      (intStatWord s).extractLsb' 2 30 = 0 := by
  simp (disch := omega) only [intStatWord, BitVec.getLsbD_append, flagBit, BitVec.getLsbD_ofBool,
    BitVec.extractLsb'_append_eq_of_le]
  refine ⟨?_, ?_, rfl⟩ <;> simp

/-! ### Registers that show bytes (R56, R57) -/

theorem bigEndian_append (a b c d : Byte) : bigEndian (a ++ b ++ c ++ d) = [a, b, c, d] := by
  simp (disch := omega) only [bigEndian, BitVec.extractLsb'_append_eq_of_add_le, BitVec.extractLsb'_append_eq_of_le]
  simp

theorem bigEndian_capWord (s : State) : bigEndian (capWord s) = s.cmd.cap.toList := by
  rw [capWord, bigEndian_append]
  refine List.ext_getElem (by simp) fun i hi _ => ?_
  have hi : i < 4 := hi
  interval_cases i <;> simp

theorem bigEndian_csdWords (s : State) :
    bigEndian (csdWord 0 s) ++ bigEndian (csdWord 1 s) ++ bigEndian (csdWord 2 s) ++ bigEndian (csdWord 3 s) =
      s.csd.toList := by
  simp only [csdWord, bigEndian_append, csdByte]
  refine List.ext_getElem (by simp) fun i hi _ => ?_
  have hi : i < 16 := hi
  interval_cases i <;> simp

/-! ### Codes (R32, R340) -/

theorem errCode_table (c : ErrCode) :
    ∀ e ∈ [(ErrCode.ok, (0 : BitVec 3)), (.busTimeout, 1), (.illegalCommand, 2), (.initFailed, 3), (.dataTokenError, 4),
      (.protocolViolation, 5)], c = e.1 → errCode c = e.2 := by
  cases c <;> decide

theorem initCode_table (i : InitState) :
    ∀ e ∈ [(InitState.uninitialized, (0 : BitVec 4)), (.reset, 1), (.cmd0Idle, 2), (.versionProbe, 3), (.v1Init, 4),
      (.v2Init, 5), (.voltageOk, 6), (.csdRead, 7), (.blockLenSet, 8), (.ready, 9), (.fail, 10)],
      i = e.1 → initCode i = e.2 := by
  cases i <;> decide

/-- R40, R53 to R57: the read-only registers. -/
theorem writeReg_readOnly {r : Reg} (hr : r ∉ [Reg.cmd, .blockNum, .bufAddr, .bufLen, .status, .intEn, .intStat])
    (v : Word) (s : State) : writeReg r v s = s := by
  cases r <;> simp [writeReg] at hr ⊢

end Sys2Proof.Proofs
end

section
/-! SUPPORT. R33, R34: only an INIT writes init_state and the geometry (O59). -/

namespace Sys2Proof.Proofs
open Sys2Proof.Machine Sys2Proof.Laws

/-! ### The framer: a transfer's step keeps the card view -/

/-- From `s` to `t` the operation code is kept and, where SendCommand's form is not INIT's, so are init_state and the
geometry. By the form and not by lat_op, so that it holds of the sequencer's functions in every state. -/
def KeepsTransferView (s t : State) : Prop :=
  t.op.latOp = s.op.latOp ∧ (formOp s.seq.form ≠ 0x1 → t.initState = s.initState ∧ t.geom = s.geom)

theorem KeepsTransferView.of_eq {s t : State} (hop : t.op.latOp = s.op.latOp) (hst : t.initState = s.initState)
    (hg : t.geom = s.geom) : KeepsTransferView s t := ⟨hop, fun _ => ⟨hst, hg⟩⟩

theorem KeepsTransferView.of_init {s t : State} (hf : formOp s.seq.form = 0x1) (hop : t.op.latOp = s.op.latOp) :
    KeepsTransferView s t := ⟨hop, fun h => absurd hf h⟩

theorem KeepsTransferView.trans {s t u : State} (h : KeepsTransferView s t) (hf : t.seq.form = s.seq.form)
    (h' : KeepsTransferView t u) : KeepsTransferView s u := by
  obtain ⟨hop, hst⟩ := h
  obtain ⟨hop', hst'⟩ := h'
  rw [hf] at hst'
  exact ⟨hop'.trans hop, fun hne => ⟨(hst' hne).1.trans (hst hne).1, (hst' hne).2.trans (hst hne).2⟩⟩

theorem keepsTransferView_commandReturn (r : Option Byte) (s : State) : KeepsTransferView s (commandReturn r s) := by
  unfold commandReturn
  split
  case h_1 h | h_2 h | h_3 h | h_4 h | h_5 h | h_6 h | h_7 h | h_8 h | h_9 h =>
    refine .of_init (by rw [h]; rfl) ?_
    repeat' split
    all_goals simp [enterV1Init, enterV2Init, v1Iteration, v2Iteration, voltageReached]
  case h_10 | h_11 | h_12 | h_13 | h_14 =>
    repeat' split
    all_goals exact .of_eq (by simp) (by simp) (by simp)

theorem keepsTransferView_endCommand (r : Option Byte) (s : State) : KeepsTransferView s (endCommand r s) :=
  keepsTransferView_commandReturn r _

theorem keepsTransferView_afterTrailing (s : State) : KeepsTransferView s (afterTrailing s) := by
  unfold afterTrailing
  split
  · exact .of_eq rfl rfl rfl
  · exact keepsTransferView_endCommand _ s

theorem keepsTransferView_afterR1 (b : Byte) (s : State) : KeepsTransferView s (afterR1 b s) := by
  unfold afterR1
  dsimp only
  split
  · exact .of_eq rfl rfl rfl
  · exact keepsTransferView_afterTrailing _

theorem keepsTransferView_readBlockDone (s : State) : KeepsTransferView s (readBlockDone s) := by
  unfold readBlockDone
  dsimp only
  repeat' split
  all_goals exact .of_eq (by simp) (by simp) (by simp)

theorem keepsTransferView_recvDone (s : State) : KeepsTransferView s (recvDone s) := by
  unfold recvDone
  split
  case isTrue h => exact .of_init (by rw [h]; rfl) (by simp [csdDone, parseGeometry, apply_ite])
  case isFalse => exact keepsTransferView_readBlockDone s

theorem keepsTransferView_recvTimeout (s : State) : KeepsTransferView s (recvTimeout s) := by
  unfold recvTimeout
  split
  case isTrue h => exact .of_init (by rw [h]; rfl) (by simp)
  case isFalse => exact .of_eq (by simp) (by simp) (by simp)

theorem keepsTransferView_chunkDone (s : State) : KeepsTransferView s (chunkDone s) := by
  unfold chunkDone
  dsimp only
  split <;> exact .of_eq (by simp) (by simp) (by simp)

theorem keepsTransferView_blockAccepted (s : State) : KeepsTransferView s (blockAccepted s) := by
  unfold blockAccepted
  repeat' split
  · exact .of_eq rfl rfl rfl
  · exact .of_eq rfl rfl rfl
  · exact keepsTransferView_chunkDone s

theorem keepsTransferView_busyDone (s : State) : KeepsTransferView s (busyDone s) := by
  unfold busyDone
  split
  · exact keepsTransferView_chunkDone s
  · exact .of_eq rfl rfl rfl

theorem keepsTransferView_stepCmdFrame (s : State) : KeepsTransferView s (stepCmdFrame s) := by
  unfold stepCmdFrame
  dsimp only
  repeat' split
  all_goals exact .of_eq rfl rfl rfl

theorem keepsTransferView_stepCmdTrail (s : State) : KeepsTransferView s (stepCmdTrail s) := by
  have hcap : KeepsTransferView s (captureByte (nextMiso s) (xfer 0xFF s)) := by
    unfold captureByte
    split <;> exact .of_eq rfl rfl rfl
  have hform : (captureByte (nextMiso s) (xfer 0xFF s)).seq.form = s.seq.form := by
    unfold captureByte
    split <;> rfl
  unfold stepCmdTrail
  dsimp only
  split
  · exact hcap
  · exact hcap.trans hform (keepsTransferView_afterTrailing _)

theorem keepsTransferView_stepTokenSleep (s : State) : KeepsTransferView s (stepTokenSleep s) := by
  unfold stepTokenSleep
  dsimp only
  split
  · exact .of_eq rfl rfl rfl
  · exact keepsTransferView_recvTimeout (sleep s.cfg.tokenPollSleepMs s)

theorem keepsTransferView_stepRecvData (s : State) : KeepsTransferView s (stepRecvData s) := by
  unfold stepRecvData
  dsimp only
  repeat' split
  all_goals exact .of_eq rfl rfl rfl

theorem keepsTransferView_stepRecvStore {s t : State} (h : stepRecvStore s = .next t) : KeepsTransferView s t := by
  unfold stepRecvStore at h
  split at h
  · cases h
    split <;> exact .of_eq rfl rfl rfl
  · cases h

theorem keepsTransferView_stepSendFetch {s t : State} (h : stepSendFetch s = .next t) : KeepsTransferView s t := by
  unfold stepSendFetch at h
  split at h <;> cases h
  exact .of_eq rfl rfl rfl

theorem keepsTransferView_stepAbortClock {s : State} (hop : s.op.latOp = 0x1 → formOp s.seq.form = 0x1) :
    KeepsTransferView s (stepAbortClock s) := by
  unfold stepAbortClock
  split
  case isTrue h => exact .of_init (hop h) (by simp)
  case isFalse => exact .of_eq rfl rfl rfl

/-- A primitive keeps the card view of a transfer, given that INIT's own positions and its Abort run INIT's forms. -/
theorem keepsTransferView_primitive {s t : State} (hinit : posOfInit s.seq.pos = true → formOp s.seq.form = 0x1)
    (habort : s.op.latOp = 0x1 → formOp s.seq.form = 0x1) (h : primitive s = .next t) :
    KeepsTransferView s t := by
  unfold primitive at h
  cases hpos : s.seq.pos <;> rw [hpos] at h
  case recvStore => exact keepsTransferView_stepRecvStore h
  case sendFetch => exact keepsTransferView_stepSendFetch h
  all_goals cases h
  case initClock | initDeassert | powerup | cmd0Idle | voltageOk | acmdSleep | readyClock | readyDone | retryDeassert
      | retryClock | retrySleep =>
    refine .of_init (hinit (by rw [hpos]; rfl)) ?_
    simp [stepInitDeassert, stepPowerup, stepReadyClock, stepReadyDone, beginAttempt, apply_ite]
  case cmdFrame => exact keepsTransferView_stepCmdFrame s
  case cmdTrail => exact keepsTransferView_stepCmdTrail s
  case cmdReleaseClock | cmdTimeoutClock => exact keepsTransferView_endCommand _ (xfer 0xFF s)
  case recvTokenSleep => exact keepsTransferView_stepTokenSleep s
  case recvData => exact keepsTransferView_stepRecvData s
  case recvReleaseClock => exact keepsTransferView_recvDone (xfer 0xFF s)
  case busyPoll => exact keepsTransferView_busyDone (xfer 0xFF s)
  case abortClock => exact keepsTransferView_stepAbortClock habort
  case cmdPoll | recvCrc | sendData | sendCrc | busySleep =>
    simp only [stepCmdPollMiss, stepRecvCrc, stepSendData, stepSendCrc, stepBusySleep]
    split <;> exact .of_eq (by simp) (by simp) (by simp)
  case sendResponse => exact .of_eq (by simp) (by simp) (by simp)
  all_goals exact .of_eq rfl rfl rfl

/-- A frame or a byte row that the framer meets keeps the card view of a transfer. -/
theorem keepsTransferView_exec_fetched {s t : State} {i : Instr} (hi : fetched s = some i) (h : exec i s = .next t) :
    KeepsTransferView s t := by
  obtain ⟨-, f, hf⟩ | ⟨-, low, rfl⟩ | ⟨-, rfl⟩ | ⟨-, rfl | rfl | rfl⟩ | ⟨-, ⟨up, rfl⟩ | ⟨d, rfl⟩⟩ | ⟨-, rfl⟩ :=
    fetched_cases hi
  case inl =>
    obtain ⟨arg, crc, he⟩ := exec_of_frame hf s
    rw [he] at h
    cases h
    exact .of_eq rfl rfl rfl
  all_goals cases h
  · exact keepsTransferView_afterR1 _ (exchange 0xFF _ s)
  · exact .of_eq rfl rfl rfl
  · exact .of_eq rfl rfl rfl
  · exact .of_eq rfl rfl rfl
  · exact .of_eq rfl rfl rfl
  · exact keepsTransferView_blockAccepted (exchange 0xFF _ s)
  · exact .of_eq (by simp) (by simp) (by simp)
  · exact .of_eq rfl rfl rfl

/-! ### Every turn but reset -/

/-- O59's conclusion: the card view is kept, or an INIT runs before or after the step. -/
def OnlyInitChanges (s t : State) : Prop :=
  (t.initState = s.initState ∧ t.geom = s.geom) ∨ ((t.op.busy = true ∨ s.op.busy = true) ∧ t.op.latOp = 0x1)

/-- The part of the invariant that the statement needs: it speaks of the position, the form, busy and lat_op alone, so a
register write made in a running operation keeps it. -/
def RunsItsForm (s : State) : Prop :=
  (s.op.busy = true ↔ s.seq.pos ≠ .idle) ∧
  (s.seq.pos ≠ .idle → s.op.latOp = formOp s.seq.form ∧ (posOfInit s.seq.pos = true → s.op.latOp = 0x1))

theorem runsItsForm_of_inv {s : State} (h : Machine.Inv s = true) : RunsItsForm s := by
  simp only [Machine.Inv, busyAgrees, positionFits, Bool.and_eq_true, Bool.or_eq_true, beq_iff_eq] at h
  obtain ⟨⟨⟨⟨⟨⟨⟨⟨hbusy, -⟩, hfits⟩, -⟩, -⟩, -⟩, -⟩, -⟩, -⟩ := h
  refine ⟨by simp [hbusy], fun hpos => ?_⟩
  obtain ⟨⟨⟨⟨⟨⟨hform, hinit⟩, -⟩, -⟩, -⟩, -⟩, -⟩ := hfits.resolve_left hpos
  exact ⟨hform, fun hp => hinit.resolve_left (by simp [hp])⟩

theorem onlyInitChanges_framerTurn {s t : State} (hs : RunsItsForm s) (h : framerTurn s = .next t) :
    OnlyInitChanges s t := by
  obtain ⟨hbusy, hrun⟩ := hs
  by_cases hpos : s.seq.pos = .idle
  · have hnone : fetched s = none := fetched_none s (by simp [hpos])
    rw [framerTurn_of_primitive s hnone, primitive, hpos] at h
    cases h
    exact .inl ⟨rfl, rfl⟩
  · obtain ⟨hform, hinit⟩ := hrun hpos
    have hkeeps : KeepsTransferView s t := by
      cases hi : fetched s with
      | some i => exact keepsTransferView_exec_fetched hi (framerTurn_of_fetched s i hi ▸ h)
      | none =>
        exact keepsTransferView_primitive (fun hp => hform ▸ hinit hp) (fun hop => hform ▸ hop)
          (framerTurn_of_primitive s hi ▸ h)
    obtain ⟨hop, hview⟩ := hkeeps
    by_cases hf : formOp s.seq.form = 0x1
    · exact .inr ⟨.inr (hbusy.2 hpos), by rw [hop, hform, hf]⟩
    · exact .inl (hview hf)

/-- R321, R325: of the dispatched operations, only INIT writes init_state or the geometry. -/
theorem dispatchOf_keeps_view {v : Word} (hv : v.extractLsb' 0 4 ≠ 0x1) (s : State) :
    (dispatchOf v s).initState = s.initState ∧ (dispatchOf v s).geom = s.geom := by
  have transfer : ∀ body : State → State, (body s).initState = s.initState ∧ (body s).geom = s.geom →
      (checkTransfer body s).initState = s.initState ∧ (checkTransfer body s).geom = s.geom := by
    intro body hb
    obtain h | h := checkTransfer_cases body s <;> rw [h]
    · exact hb
    · simp
  have query : ∀ answer : State → Word,
      (ioctlWhenReady answer s).initState = s.initState ∧ (ioctlWhenReady answer s).geom = s.geom := by
    intro answer
    obtain h | h := ioctlWhenReady_cases answer s <;> rw [h] <;> simp [ioctlAnswer]
  unfold dispatchOf
  rw [if_neg hv]
  repeat' split
  · exact transfer _ (by unfold readStart; split <;> simp)
  · exact transfer _ (by unfold writeStart; split <;> simp)
  · exact query _
  · simp [ioctlAnswer]
  · exact query _
  · simp
  · simp

theorem onlyInitChanges_hostWrite {bytes offset : Nat} {v : Word} {s t : State}
    (h : hostWrite bytes offset v s = .next t) : OnlyInitChanges s t := by
  obtain rfl | ⟨r, rfl⟩ := hostWrite_cases h
  · cases hb : s.op.busy with
    | true =>
      rw [hostCommand_of_busy _ _ _ hb]
      exact .inl ⟨rfl, rfl⟩
    | false =>
      rw [hostCommand_of_idle _ _ _ hb]
      by_cases hv : v.extractLsb' 0 4 = 0x1
      · have hinit : dispatchOf v = initStart := if_pos hv
        rw [hinit]
        exact .inr ⟨.inl rfl, hv⟩
      · exact .inl (dispatchOf_keeps_view hv (acceptCommand v s))
  · exact .inl ⟨by simp, by simp⟩

/-- While an operation runs, no host write moves it or touches what the statement speaks of (R41, R400). -/
theorem hostWrite_of_busy {bytes offset : Nat} {v : Word} {s t : State} (hb : s.op.busy = true)
    (h : hostWrite bytes offset v s = .next t) :
    t.seq = s.seq ∧ t.op.busy = s.op.busy ∧ t.op.latOp = s.op.latOp ∧ t.initState = s.initState ∧ t.geom = s.geom := by
  obtain rfl | ⟨r, rfl⟩ := hostWrite_cases h
  · rw [hostCommand_of_busy _ _ _ hb]
    exact ⟨rfl, rfl, rfl, rfl, rfl⟩
  · simp

theorem onlyInitChanges_hostWriteWith {bytes offset : Nat} {v : Word} {s t : State} (hs : RunsItsForm s)
    (h : hostWriteWith bytes offset v s = .next t) : OnlyInitChanges s t := by
  unfold hostWriteWith at h
  split at h
  case h_2 | h_3 => cases h
  case h_1 u hu =>
    split at h
    case isFalse =>
      cases h
      exact onlyInitChanges_hostWrite hu
    case isTrue hb =>
      obtain ⟨hseq, hbusy, hop, hst, hg⟩ := hostWrite_of_busy hb hu
      have hu' : RunsItsForm u := by
        unfold RunsItsForm
        rw [hseq, hbusy, hop]
        exact hs
      have ht := onlyInitChanges_framerTurn hu' h
      unfold OnlyInitChanges at ht ⊢
      rwa [hbusy, hst, hg] at ht

theorem onlyInitChanges_hostTurn {a : HostAction} {s t : State} (hs : RunsItsForm s) (ha : a ≠ .reset)
    (h : hostTurn a s = .next t) : OnlyInitChanges s t := by
  cases a with
  | tick => exact onlyInitChanges_framerTurn hs h
  | write bytes offset v => exact onlyInitChanges_hostWrite h
  | writeWith bytes offset v => exact onlyInitChanges_hostWriteWith hs h
  | read bytes offset =>
    simp only [hostTurn, hostRead] at h
    split at h <;> cases h
    exact .inl ⟨rfl, rfl⟩
  | reset => exact absurd rfl ha
  | waitDone | memWrite addr v | memRead addr =>
    cases h
    exact .inl ⟨rfl, rfl⟩

/-- Settles O59: the framer writes init_state and the geometry only at INIT's positions and at the returns of INIT's
SendCommand forms, which the invariant gives to a running INIT alone; the host writes them only by an accepted INIT. -/
theorem onlyInitChangesCardView : Obligations.OnlyInitChangesCardView := by
  unfold Obligations.OnlyInitChangesCardView
  intro s t hinv hreset h
  have hs := runsItsForm_of_inv hinv
  cases hv : s.cfg.valid with
  | false => rw [step_of_invalid s hv] at h; cases h
  | true =>
    rw [step_of_valid s hv] at h
    cases hh : s.env.host with
    | nil => exact onlyInitChanges_framerTurn hs (turn_alone s hh ▸ h)
    | cons a rest =>
      by_cases ha : a = .waitDone
      · subst ha
        rw [turn_wait s rest hh] at h
        split at h
        · cases h
          exact .inl ⟨rfl, rfl⟩
        · exact onlyInitChanges_framerTurn hs h
      · have hne : a ≠ .reset := fun e => hreset rest (e ▸ hh)
        exact onlyInitChanges_hostTurn (s := popHost s) hs hne (turn_action s a rest hh ha ▸ h)

end Sys2Proof.Proofs
end

section
/-! SUPPORT. The host registers: O8, O11 and O12. -/

namespace Sys2Proof.Proofs
open Sys2Proof.Machine Sys2Proof.Laws

/-- Settles O8, from the fields of each composed register. -/
theorem registerFieldsRead : Obligations.RegisterFieldsRead := by
  unfold Obligations.RegisterFieldsRead
  intro s
  obtain ⟨hbusy, hdone, hready, hcs, hres, hovr, h11⟩ := statusWord_bits s
  obtain ⟨herr, hinit, hatt, h5, h20⟩ := statusWord_slices s
  obtain ⟨hie, hpe, hen⟩ := intEnWord_fields s
  refine ⟨⟨rfl, rfl, rfl, rfl, rfl, rfl⟩, ⟨hbusy, hdone, hready, hcs, hres, hovr, herr, hinit, hatt, h5, h11, h20⟩,
    geomWord_fields s, lastCmdWord_fields s, ⟨hie, hpe, hen, intStatWord_fields s⟩, bigEndian_capWord s,
    bigEndian_csdWords s, rfl, rfl, fun e he h => herr.trans (errCode_table _ e he h),
    fun e he h => hinit.trans (initCode_table _ e he h), geomWord_cardType s, geomWord_addressUnit s, rfl,
    accessedReg_regOffset, ?_⟩
  intro r hr
  refine ⟨fun v => writeReg_readOnly (by revert r; decide) v s, ?_⟩
  revert r
  decide

/-- How the statements write a bit that a written 1 clears. -/
theorem and_not_eq_ite (b c : Bool) : (b && !c) = if c then false else b := by cases c <;> simp

/-- Settles O11: INT_EN stands at 0x40 and INT_STAT at 0x44, and their words show the fields that a write stores or clears. -/
theorem interruptRegisters : Obligations.InterruptRegisters := by
  unfold Obligations.InterruptRegisters
  intro s v rest hv
  refine ⟨fun hh => ?_, fun hh => ?_, fun hh => ?_, fun hh => ?_, rfl, rfl⟩
  · exact step_write_regOffset (r := .intEn) nofun hv hh
  · rw [step_write_regOffset (r := .intStat) nofun hv hh]
    simp only [writeReg, writeIntStat, and_not_eq_ite]
  · exact ⟨_, step_read_regOffset (r := .intEn) hv hh, intEnWord_fields s⟩
  · obtain ⟨hdone, hprog, hrest⟩ := intStatWord_fields s
    obtain ⟨-, hstatus, -⟩ := statusWord_bits s
    exact ⟨_, step_read_regOffset (r := .intStat) hv hh, hdone, hprog, hrest, hdone.trans hstatus.symm⟩

/-- The two positions whose step completes the operation (R351): with their code, DONE set, and OVR and PROG_IP kept. -/
theorem framerTurn_completes {s : State} (hpos : s.seq.pos = .finish ∨ s.seq.pos = .readyDone) :
    ∃ t, framerTurn s = .next t ∧ hasCompleted (if s.seq.pos = .finish then s.seq.code else .ok) t ∧
      (readReg .status t).getLsbD 1 = true ∧ t.op.ovr = s.op.ovr ∧ t.op.progIp = s.op.progIp := by
  have hdone : ∀ (c : ErrCode) (u : State), (readReg .status (complete c u)).getLsbD 1 = true := by
    intro c u
    obtain ⟨-, hbit, -⟩ := statusWord_bits (complete c u)
    exact hbit
  have hnone : fetched s = none := fetched_none s (by obtain h | h := hpos <;> simp [h])
  rw [framerTurn_of_primitive s hnone]
  unfold primitive
  obtain h | h := hpos <;> rw [h]
  · exact ⟨_, rfl, ⟨rfl, rfl, rfl, rfl⟩, hdone _ s, rfl, rfl⟩
  · exact ⟨_, rfl, ⟨rfl, rfl, rfl, rfl⟩, hdone .ok _, rfl, rfl⟩

/-- Settles O12: a write to STATUS or INT_STAT keeps the position, so a completion in the same step comes after it and sets
DONE again. -/
theorem statusWriteClears : Obligations.StatusWriteClears := by
  unfold Obligations.StatusWriteClears
  intro s v rest hv
  refine ⟨fun hh => ?_, fun hb hpos hh => ?_, fun hb hpos hh => ?_⟩
  · rw [step_write_regOffset (r := .status) nofun hv hh]
    simp only [writeReg, writeStatus, and_not_eq_ite]
  · rw [step_writeWith_regOffset (r := .status) nofun hv hb hh, ← and_not_eq_ite]
    exact framerTurn_completes (s := writeStatus v { s with env := { s.env with host := rest } }) hpos
  · rw [step_writeWith_regOffset (r := .intStat) nofun hv hb hh, ← and_not_eq_ite]
    exact framerTurn_completes (s := writeIntStat v { s with env := { s.env with host := rest } }) hpos

end Sys2Proof.Proofs
end

section
/-! SUPPORT. The card geometry of the init sequencer: O38 and O39. -/

namespace Sys2Proof.Proofs
open Sys2Proof.Machine

/-- The formulas of R240 and R246 join fields with `|`; with the low field below the shift this is a sum. -/
theorem shiftLeft_or_eq_mul_add {lo : Nat} (hi : Nat) {k : Nat} (h : lo < 2 ^ k) :
    hi <<< k ||| lo = hi * 2 ^ k + lo := by
  rw [← Nat.shiftLeft_add_eq_or_of_lt h, Nat.shiftLeft_eq]

/-- The 16-bit field c_size of a v2.0 CSD, read as a u32. -/
theorem bytePairWord_toNat (hi lo : Byte) :
    ((hi.setWidth 32 <<< 8) ||| lo.setWidth 32 : Word).toNat = hi.toNat * 256 + lo.toNat := by
  have hlo : lo.toNat < 2 ^ 8 := lo.isLt
  have hshift : (hi.setWidth 32 <<< 8 : Word).toNat = hi.toNat <<< 8 := by
    simp only [BitVec.toNat_shiftLeft, BitVec.toNat_setWidth, Nat.shiftLeft_eq]
    omega
  rw [BitVec.toNat_or, hshift, BitVec.toNat_setWidth_of_le (by decide), shiftLeft_or_eq_mul_add _ hlo,
    show 2 ^ 8 = 256 from rfl]

/-- Settles O38: c_size has 16 bits, so that (c_size + 1) * 1024 is at most 2^26 and neither u32 operation wraps. -/
theorem v2SectorCountIsExact : Obligations.V2SectorCountIsExact := by
  unfold Obligations.V2SectorCountIsExact
  intro csd
  have hbound : csd[8].toNat * 256 + csd[9].toNat < 2 ^ 16 := by omega
  rw [v2Sectors, BitVec.toNat_mul, BitVec.toNat_add, bytePairWord_toNat]
  change (_ + 1) % 2 ^ 32 * 1024 % 2 ^ 32 = _
  omega

theorem and_three_toNat (b : Byte) : (b &&& 3).toNat = b.toNat % 4 := by
  rw [BitVec.toNat_and]
  exact Nat.and_two_pow_sub_one_eq_mod _ 2

theorem legacyReadBlLen_eq (csd : Vector Byte 16) : legacyReadBlLen csd = csd[5].toNat % 16 := by
  rw [legacyReadBlLen, BitVec.toNat_and]
  exact Nat.and_two_pow_sub_one_eq_mod _ 4

/-- The three fields of R246's c_size stand at bits 11:10, 9:2 and 1:0. -/
theorem legacyCSize_eq (csd : Vector Byte 16) :
    legacyCSize csd = (csd[6].toNat % 4) * 1024 + csd[7].toNat * 4 + csd[8].toNat / 64 := by
  have hlow : csd[8].toNat / 64 < 2 ^ 2 := by omega
  have hmid : csd[7].toNat * 2 ^ 2 + csd[8].toNat / 64 < 2 ^ 10 := by omega
  rw [legacyCSize, Nat.or_assoc, Nat.shiftRight_eq_div_pow, shiftLeft_or_eq_mul_add _ hlow,
    shiftLeft_or_eq_mul_add _ hmid, and_three_toNat]
  omega

theorem legacyCSizeMult_eq (csd : Vector Byte 16) :
    legacyCSizeMult csd = (csd[9].toNat % 4) * 2 + csd[10].toNat / 128 := by
  have hlow : csd[10].toNat / 128 < 2 ^ 1 := by omega
  rw [legacyCSizeMult, Nat.shiftRight_eq_div_pow, shiftLeft_or_eq_mul_add _ hlow, and_three_toNat, pow_one]

theorem legacySectorsNat_eq (csd : Vector Byte 16) :
    legacySectorsNat csd =
      (legacyCSize csd + 1) * 2 ^ (legacyCSizeMult csd + 2) * 2 ^ (csd[5].toNat % 16) / 512 := by
  simp only [legacySectorsNat, Nat.shiftLeft_eq, legacyReadBlLen_eq]

/-- R246's bound: a product of at most 2^12 * 2^9 * 2^15, over 2^9. -/
theorem legacySectorsNat_le (csd : Vector Byte 16) : legacySectorsNat csd ≤ 2 ^ 27 := by
  have hsize : legacyCSize csd + 1 ≤ 2 ^ 12 := by rw [legacyCSize_eq]; omega
  have hmult : legacyCSizeMult csd + 2 ≤ 9 := by rw [legacyCSizeMult_eq]; omega
  have hlen : csd[5].toNat % 16 ≤ 15 := by omega
  rw [legacySectorsNat_eq]
  calc (legacyCSize csd + 1) * 2 ^ (legacyCSizeMult csd + 2) * 2 ^ (csd[5].toNat % 16) / 512
      ≤ 2 ^ 12 * 2 ^ 9 * 2 ^ 15 / 512 := by gcongr <;> decide
    _ = 2 ^ 27 := by decide

theorem legacySectors_toNat (csd : Vector Byte 16) : (legacySectors csd).toNat = legacySectorsNat csd := by
  rw [legacySectors, BitVec.toNat_ofNat]
  exact Nat.mod_eq_of_lt ((legacySectorsNat_le csd).trans_lt (by decide))

/-- Settles O39: the u32 is the Nat quotient, since the fields' widths bound it by 2^27. -/
theorem legacySectorCountIsExact : Obligations.LegacySectorCountIsExact := by
  unfold Obligations.LegacySectorCountIsExact
  intro csd
  rw [legacySectors_toNat]
  exact ⟨legacyCSize_eq csd, legacyCSizeMult_eq csd, legacySectorsNat_eq csd, legacySectorsNat_le csd⟩

end Sys2Proof.Proofs
end

section
/-! SUPPORT. The host operations that end in the step that accepts them (43_facade R326 to R331): O20 to O23. -/

namespace Sys2Proof.Proofs
open Sys2Proof.Machine Sys2Proof.Laws

/-- From `s`, the command word `v` is accepted and completed with `code` in one step (R320, R351), which touches neither the
card's view nor the bus nor host memory. -/
def EndsAtOnce (v : Word) (code : ErrCode) (s t : State) : Prop :=
  hasAccepted v s t ∧ hasCompleted code t ∧ t.op.attempt = s.op.attempt ∧ sameCardView s t ∧ noBusActivity s t

theorem hasAccepted_acceptCommand (v : Word) (s : State) : hasAccepted v s (acceptCommand v s) :=
  ⟨rfl, rfl, rfl, rfl, rfl, rfl, rfl, rfl, rfl, rfl, rfl⟩

/-- `complete` writes only fields that acceptance leaves to the operation. -/
theorem endsAtOnce_complete (v : Word) (code : ErrCode) (s : State) :
    EndsAtOnce v code s (complete code (acceptCommand v s)) :=
  ⟨hasAccepted_acceptCommand v s, ⟨rfl, rfl, rfl, rfl⟩, rfl, ⟨rfl, rfl, rfl, rfl, rfl⟩, ⟨rfl, rfl, rfl, rfl⟩⟩

/-- An IOCTL that answers (R326 to R328). -/
theorem ioctlAnswer_acceptCommand (v a : Word) (s : State) :
    (ioctlAnswer a (acceptCommand v s)).op.result = a ∧ (ioctlAnswer a (acceptCommand v s)).op.resValid = true ∧
      EndsAtOnce v .ok s (ioctlAnswer a (acceptCommand v s)) :=
  ⟨rfl, rfl, endsAtOnce_complete v .ok s⟩

/-- A command word that raises before any primitive (R350, R352): CS being deasserted (R177), Abort does nothing. -/
theorem raiseAtOnce_acceptCommand (v : Word) (kind : ErrCode) {s : State} (hcs : s.bus.csAsserted = false) :
    (raiseAtOnce kind (acceptCommand v s)).op.result = s.op.result ∧
      (raiseAtOnce kind (acceptCommand v s)).op.resValid = false ∧
      EndsAtOnce v kind s (raiseAtOnce kind (acceptCommand v s)) := by
  rw [raiseAtOnce_of_released kind (acceptCommand v s) hcs]
  exact ⟨rfl, rfl, endsAtOnce_complete v kind s⟩

/-- R34's tag as the word that IOCTL 6 answers. -/
theorem cardTypeBit_setWidth (c : CardType) :
    ((cardTypeBit c).setWidth 32 : Word) = if c = .highCapacity then 1 else 0 := by
  cases c <;> rfl

/-- The two queries that need Ready, as one function of the IOCTL_OP and of the answer. -/
theorem exec_ioctlQuery {hi : BitVec 16} {mid : BitVec 4} {s : State} {i : Instr} {iop : BitVec 8} {a : Word}
    (h : (i = .ioctlSectorCount hi mid ∧ iop = 4 ∧ a = s.geom.sectorCount) ∨
      (i = .ioctlCardType hi mid ∧ iop = 6 ∧ a = if s.geom.cardType = .highCapacity then 1 else 0)) :
    ∃ answer : State → Word, (∀ v, answer (acceptCommand v s) = a) ∧
      exec i s = .next (hostCommand (ioctlWord hi iop mid) (ioctlWhenReady answer) s) := by
  obtain ⟨rfl, rfl, rfl⟩ | ⟨rfl, rfl, rfl⟩ := h
  · exact ⟨fun s => s.geom.sectorCount, fun _ => rfl, rfl⟩
  · exact ⟨fun s => (cardTypeBit s.geom.cardType).setWidth 32, fun _ => cardTypeBit_setWidth s.geom.cardType, rfl⟩

/-- Settles O20: both queries are one IOCTL that needs Ready, and acceptance keeps init_state and the geometry. -/
theorem ioctlQueriesAnswer : Obligations.IoctlQueriesAnswer := by
  unfold Obligations.IoctlQueriesAnswer
  intro hi mid s i iop a hb hcs h
  obtain ⟨answer, hanswer, hexec⟩ := exec_ioctlQuery h
  rw [hexec, hostCommand_of_idle _ _ s hb]
  by_cases hr : s.initState = .ready
  · rw [ioctlWhenReady_ready answer (acceptCommand _ s) hr, hanswer]
    obtain ⟨hres, hvalid, hacc, hdone, hatt, hview, hbus⟩ := ioctlAnswer_acceptCommand (ioctlWord hi iop mid) a s
    exact ⟨_, rfl, hacc, fun _ => ⟨hres, hvalid, hdone⟩, fun hn => absurd hr hn, hatt, hview, hbus⟩
  · rw [ioctlWhenReady_not answer (acceptCommand _ s) hr]
    obtain ⟨hres, hvalid, hacc, hdone, hatt, hview, hbus⟩ :=
      raiseAtOnce_acceptCommand (ioctlWord hi iop mid) .protocolViolation hcs
    exact ⟨_, rfl, hacc, fun h => absurd h hr, fun _ => ⟨hres, hvalid, hdone⟩, hatt, hview, hbus⟩

/-- Settles O21: the answer is a constant and asks for no init state. -/
theorem ioctlSectorSizeAnswers : Obligations.IoctlSectorSizeAnswers := by
  unfold Obligations.IoctlSectorSizeAnswers
  intro hi mid s hb
  rw [exec, execIoctlSectorSize, hostCommand_of_idle _ _ s hb]
  obtain ⟨hres, hvalid, hacc, hdone, hatt, hview, hbus⟩ :=
    ioctlAnswer_acceptCommand (ioctlWord hi 5 mid) 0x00000200 s
  exact ⟨_, rfl, hacc, hres, hvalid, hdone, hatt, hview, hbus⟩

/-- A command word whose operation is only to raise ProtocolViolation (R329, R331). -/
theorem hostCommand_violates (v : Word) {s : State} (hb : s.op.busy = false) (hcs : s.bus.csAsserted = false) :
    ∃ t, (.next (hostCommand v (raiseAtOnce .protocolViolation) s) : Host.Outcome State Fault Refusal) = .next t ∧
      hasAccepted v s t ∧ hasCompleted .protocolViolation t ∧ t.op.result = s.op.result ∧ t.op.resValid = false ∧
      t.op.attempt = s.op.attempt ∧ sameCardView s t ∧ noBusActivity s t := by
  rw [hostCommand_of_idle v _ s hb]
  obtain ⟨hres, hvalid, hacc, hdone, hatt, hview, hbus⟩ := raiseAtOnce_acceptCommand v .protocolViolation hcs
  exact ⟨_, rfl, hacc, hdone, hres, hvalid, hatt, hview, hbus⟩

/-- Settles O22: the meaning of `ioctlOther` is to raise whatever its code; well-formedness only keeps the three answered
codes out of it. -/
theorem ioctlOtherViolates : Obligations.IoctlOtherViolates := by
  unfold Obligations.IoctlOtherViolates
  intro hi iop mid s _ hb hcs
  exact hostCommand_violates (ioctlWord hi iop mid) hb hcs

/-- R331: the twelve reserved OP values, each with its instruction. -/
def reservedRows (rest : BitVec 28) : List (BitVec 4 × Instr) :=
  [(0x0, .reserved0 rest), (0x5, .reserved5 rest), (0x6, .reserved6 rest), (0x7, .reserved7 rest), (0x8, .reserved8 rest),
    (0x9, .reserved9 rest), (0xA, .reservedA rest), (0xB, .reservedB rest), (0xC, .reservedC rest), (0xD, .reservedD rest),
    (0xE, .reservedE rest), (0xF, .reservedF rest)]

/-- Every reserved row has one meaning, with its OP value in the command word. -/
theorem exec_of_reservedRow (rest : BitVec 28) (s : State) :
    ∀ row ∈ reservedRows rest, exec row.2 s = reservedCommand rest row.1 s := by
  simp only [reservedRows, List.forall_mem_cons]
  exact ⟨rfl, rfl, rfl, rfl, rfl, rfl, rfl, rfl, rfl, rfl, rfl, rfl, nofun⟩

/-- Settles O23: the twelve rows share one meaning, which only raises. -/
theorem reservedOpViolates : Obligations.ReservedOpViolates := by
  unfold Obligations.ReservedOpViolates
  intro rest s op i hb hcs hrow
  rw [exec_of_reservedRow rest s (op, i) hrow]
  exact hostCommand_violates (hostWord rest op) hb hcs

end Sys2Proof.Proofs
end

section
/-! SUPPORT. The interrupt output: O9. -/

namespace Sys2Proof.Proofs
open Sys2Proof.Machine

theorem flagBit_and_flagBit (b c : Bool) : flagBit b &&& flagBit c = flagBit (b && c) := BitVec.ofBool_and_ofBool

/-- INT_STAT and INT_EN have one layout (R58), so their conjunction has it too: each pending bit meets its own enable. -/
theorem intStatWord_and_intEnWord (s : State) :
    intStatWord s &&& intEnWord s =
      (0 : BitVec 30) ++ flagBit (s.op.progIp && s.op.progIe) ++ flagBit (s.op.done && s.op.doneIe) := by
  calc intStatWord s &&& intEnWord s
      = ((0 : BitVec 30) ++ flagBit s.op.progIp &&& (0 : BitVec 30) ++ flagBit s.op.progIe) ++
          (flagBit s.op.done &&& flagBit s.op.doneIe) := BitVec.and_append
    _ = _ := by rw [BitVec.and_append, BitVec.and_self, flagBit_and_flagBit, flagBit_and_flagBit]

theorem twoFlagWord_ne_zero (hi lo : Bool) :
    (0 : BitVec 30) ++ flagBit hi ++ flagBit lo ≠ 0 ↔ (lo || hi) = true := by
  revert hi lo
  decide

/-- Settles O9: the conjunction of the two registers holds the two terms of R360's equation as its only bits. -/
theorem irqIsPendingAndEnabled : Obligations.IrqIsPendingAndEnabled := by
  unfold Obligations.IrqIsPendingAndEnabled
  refine fun s => ⟨rfl, ?_⟩
  calc irq s = true
      ↔ (0 : BitVec 30) ++ flagBit (s.op.progIp && s.op.progIe) ++ flagBit (s.op.done && s.op.doneIe) ≠ 0 :=
        (twoFlagWord_ne_zero _ _).symm
    _ ↔ readReg .intStat s &&& readReg .intEn s ≠ 0 := by
        rw [readReg, readReg, intStatWord_and_intEnWord]

end Sys2Proof.Proofs
end

section
/-! SUPPORT. Reset (70_reset_and_hazards R390, R391): O13. -/

namespace Sys2Proof.Proofs
open Sys2Proof.Machine Sys2Proof.Laws

/-- No register shows what reset keeps: the parameters, host memory and the environment (log 19). -/
@[simp] theorem readReg_applyReset (r : Reg) (s : State) : readReg r (applyReset s) = readReg r State.reset := by
  cases r <;> rfl

/-- R390, R41 to R58. -/
theorem readReg_reset (r : Reg) : readReg r State.reset = if r = .sectorSize then 0x200 else 0 := by
  cases r <;> decide

/-- The step of a reset action, whatever runs (R391). -/
theorem step_reset {rest : List HostAction} {s : State} (hv : s.cfg.valid = true) (hh : s.env.host = .reset :: rest) :
    step s = .next (applyReset { s with env := { s.env with host := rest } }) := by
  rw [step_of_valid s hv, turn_action s _ rest hh nofun, ← popHost_of_cons hh]
  rfl

/-- Settles O13: the step ends in `State.reset` but for the parameters, host memory and the environment, which no register
shows. -/
theorem resetAction : Obligations.ResetAction := by
  unfold Obligations.ResetAction
  intro s rest hv hh
  exact ⟨_, step_reset hv hh, rfl, rfl, rfl, rfl, rfl, rfl, rfl, rfl, rfl,
    fun r => (readReg_applyReset r _).trans (readReg_reset r), rfl, rfl, rfl, rfl, rfl⟩

end Sys2Proof.Proofs
end

section
/-! SUPPORT. The framer running alone: a state at a given position and pass, rows of exchanges and of polls as one function
each, and the composition of runs. -/

namespace Sys2Proof.Proofs
open Sys2Proof.Machine Sys2Proof.Laws

/-! ### The framer alone -/

/-- The host does nothing and the parameters are a configuration, so that every step is the framer's. -/
def Alone (s : State) : Prop := s.cfg.valid = true ∧ s.env.host = []

/-- R10: no budget of a configuration is 0. -/
theorem budgets_pos {c : Config.Params} (h : c.valid = true) :
    0 < c.r1PollBudget.toNat ∧ 0 < c.tokenPollBudget.toNat ∧ 0 < c.busyPollBudget.toNat := by
  simp only [Config.Params.valid, Bool.and_eq_true, bne_iff_ne] at h
  obtain ⟨⟨⟨⟨hr1, -⟩, htok⟩, hbusy⟩, -⟩ := h
  have pos : ∀ w : Word, w ≠ 0 → 0 < w.toNat := fun w hw =>
    Nat.pos_of_ne_zero fun h0 => hw (BitVec.eq_of_toNat_eq h0)
  exact ⟨pos _ hr1, pos _ htok, pos _ hbusy⟩

theorem alone_congr {s t : State} (hc : t.cfg = s.cfg) (hh : t.env.host = s.env.host) : Alone t ↔ Alone s := by
  rw [Alone, Alone, hc, hh]

theorem step_of_alone {s : State} (h : Alone s) : step s = framerTurn s := by
  rw [step_of_valid s h.1, turn_alone s h.2]

/-- The positions at which the framer may meet a row of the table (R31). -/
def asksRow : Pos → Bool
  | .cmdIssue | .cmdPoll | .recvToken | .txToken | .sendResponse | .busyPoll => true
  | _ => false

theorem fetched_of_asksRow {s : State} (h : asksRow s.seq.pos = false) : fetched s = none :=
  fetched_none s (by refine ⟨?_, ?_, ?_, ?_, ?_, ?_⟩ <;> intro hp <;> simp [hp, asksRow] at h)

theorem step_primitive {s : State} (ha : Alone s) (hf : fetched s = none) : step s = primitive s := by
  rw [step_of_alone ha, framerTurn_of_primitive s hf]

theorem step_exec {s : State} {i : Instr} (ha : Alone s) (hf : fetched s = some i) : step s = exec i s := by
  rw [step_of_alone ha, framerTurn_of_fetched s i hf]

/-- The step at a position that asks for no row. -/
theorem step_at {s : State} {p : Pos} (ha : Alone s) (hpos : s.seq.pos = p) (hp : asksRow p = false) :
    step s = primitive s := step_primitive ha (fetched_of_asksRow (by rw [hpos]; exact hp))

/-! ### Runs -/

theorem runSteps_trans {j k : Nat} {s t u : State} (h : runSteps j s = .next t) (h' : runSteps k t = .next u) :
    runSteps (j + k) s = .next u := (runSteps_add_of_next j k h).trans h'

theorem runSteps_step {k : Nat} {s t u : State} (h : step s = .next t) (h' : runSteps k t = .next u) :
    runSteps (k + 1) s = .next u := (runSteps_succ_of_next k h).trans h'

theorem runSteps_trans_step {k : Nat} {s t u : State} (h : runSteps k s = .next t) (h' : step t = .next u) :
    runSteps (k + 1) s = .next u := runSteps_trans h (runSteps_one_of_next h')

/-! ### The state at a position -/

/-- `s` with the framer at position `p`, in pass `k` of its loop. -/
def pass (p : Pos) (k : Nat) (s : State) : State := { s with seq := { s.seq with pos := p, k := k } }

theorem pass_self {s : State} {p : Pos} {k : Nat} (hp : s.seq.pos = p) (hk : s.seq.k = k) : pass p k s = s := by
  subst hp hk
  rfl

section
variable (p q : Pos) (j k : Nat) (s : State)

@[simp] theorem pass_cfg : (pass p k s).cfg = s.cfg := rfl
@[simp] theorem pass_host : (pass p k s).host = s.host := rfl
@[simp] theorem pass_op : (pass p k s).op = s.op := rfl
@[simp] theorem pass_initState : (pass p k s).initState = s.initState := rfl
@[simp] theorem pass_geom : (pass p k s).geom = s.geom := rfl
@[simp] theorem pass_bus : (pass p k s).bus = s.bus := rfl
@[simp] theorem pass_cmd : (pass p k s).cmd = s.cmd := rfl
@[simp] theorem pass_csd : (pass p k s).csd = s.csd := rfl
@[simp] theorem pass_traceRev : (pass p k s).traceRev = s.traceRev := rfl
@[simp] theorem pass_trace : (pass p k s).trace = s.trace := rfl
@[simp] theorem pass_mem : (pass p k s).mem = s.mem := rfl
@[simp] theorem pass_env : (pass p k s).env = s.env := rfl
@[simp] theorem pass_seq : (pass p k s).seq = { s.seq with pos := p, k := k } := rfl

@[simp] theorem pass_pass : pass q j (pass p k s) = pass q j s := rfl
@[simp] theorem goto_pass : goto q (pass p k s) = pass q k s := rfl
@[simp] theorem enter_pass : enter q (pass p k s) = pass q 0 s := rfl
@[simp] theorem again_pass : again q (pass p k s) = pass q (k + 1) s := rfl
@[simp] theorem xfer_pass (m : Byte) : xfer m (pass p k s) = pass p k (xfer m s) := rfl
@[simp] theorem exchange_pass (m b : Byte) : exchange m b (pass p k s) = pass p k (exchange m b s) := rfl
@[simp] theorem sleep_pass (ms : Word) : sleep ms (pass p k s) = pass p k (sleep ms s) := rfl
@[simp] theorem csAssert_pass : csAssert (pass p k s) = pass p k (csAssert s) := rfl
@[simp] theorem csDeassert_pass : csDeassert (pass p k s) = pass p k (csDeassert s) := rfl
@[simp] theorem setClock_pass (hz : Word) : setClock hz (pass p k s) = pass p k (setClock hz s) := rfl
@[simp] theorem nextMiso_pass : nextMiso (pass p k s) = nextMiso s := rfl
@[simp] theorem misoAt_pass : misoAt j (pass p k s) = misoAt j s := rfl
@[simp] theorem alone_pass : Alone (pass p k s) ↔ Alone s := Iff.rfl

end

/-- The step at a position that asks for no row, in the form that a loop's induction uses. -/
theorem step_pass {p : Pos} {k : Nat} {s : State} (ha : Alone s) (hp : asksRow p = false) :
    step (pass p k s) = primitive (pass p k s) := step_at (s := pass p k s) ha rfl hp

/-- A loop at position `p`: each pass takes `m` steps, and `F k` is the state before pass `k`, but for the position. -/
theorem run_loop (p : Pos) (F : Nat → State) (m : Nat) {n : Nat}
    (h : ∀ k, k < n → runSteps m (pass p k (F k)) = .next (pass p (k + 1) (F (k + 1)))) :
    runSteps (m * n) (pass p 0 (F 0)) = .next (pass p n (F n)) := by
  induction n with
  | zero => rfl
  | succ n ih => exact runSteps_trans (ih fun k hk => h k (by omega)) (h n (by omega))

/-! ### What the bus primitives keep -/

section
variable (m b : Byte) (ms : Word) (s : State)

@[simp] theorem alone_exchange : Alone (exchange m b s) ↔ Alone s := Iff.rfl
@[simp] theorem alone_xfer : Alone (xfer m s) ↔ Alone s := Iff.rfl
@[simp] theorem alone_sleep : Alone (sleep ms s) ↔ Alone s := Iff.rfl
@[simp] theorem alone_csAssert : Alone (csAssert s) ↔ Alone s := Iff.rfl
@[simp] theorem alone_csDeassert : Alone (csDeassert s) ↔ Alone s := Iff.rfl
@[simp] theorem alone_setClock : Alone (setClock ms s) ↔ Alone s := Iff.rfl

theorem misoAt_sleep (k : Nat) : misoAt k (sleep ms s) = misoAt k s := rfl
theorem misoAt_csAssert (k : Nat) : misoAt k (csAssert s) = misoAt k s := rfl
theorem misoAt_csDeassert (k : Nat) : misoAt k (csDeassert s) = misoAt k s := rfl

end

/-- `CsDeassert()` with CS deasserted does nothing (R26). -/
theorem csDeassert_of_released {s : State} (h : s.bus.csAsserted = false) : csDeassert s = s := by
  unfold csDeassert
  rw [if_neg (by simp [h]), ← h]

/-! ### A row of exchanges -/

/-- The bytes of `ms` are sent in order, one exchange each. -/
def xfers : List Byte → State → State
  | [], s => s
  | m :: ms, s => xfers ms (xfer m s)

section
variable (ms : List Byte) (s : State)

@[simp] theorem xfers_nil : xfers [] s = s := rfl
theorem xfers_cons (m : Byte) : xfers (m :: ms) s = xfers ms (xfer m s) := rfl

@[simp] theorem xfers_singleton (m : Byte) : xfers [m] s = xfer m s := rfl

/-- One more byte of a loop that sends the same byte. -/
theorem xfers_replicate_succ (k : Nat) (m : Byte) :
    xfers (List.replicate (k + 1) m) s = xfer m (xfers (List.replicate k m) s) := by
  induction k generalizing s with
  | zero => rfl
  | succ k ih => exact ih (xfer m s)

theorem xfers_append (ns : List Byte) : xfers (ms ++ ns) s = xfers ns (xfers ms s) := by
  induction ms generalizing s with
  | nil => rfl
  | cons m ms ih => exact ih (xfer m s)

theorem xfers_concat (m : Byte) : xfers (ms ++ [m]) s = xfer m (xfers ms s) := xfers_append ms s [m]

/-- A row of exchanges writes TRACE and the card's coming bytes alone. -/
theorem xfers_frame : ∃ tr env, xfers ms s = { s with traceRev := tr, env := env } ∧ env.host = s.env.host ∧
    env.refused = s.env.refused ∧ env.miso = s.env.miso.drop ms.length ∧ env.drawn = s.env.drawn + ms.length := by
  induction ms generalizing s with
  | nil => exact ⟨s.traceRev, s.env, rfl, rfl, rfl, rfl, rfl⟩
  | cons m ms ih =>
    obtain ⟨tr, env, heq, hh, hr, hm, hd⟩ := ih (xfer m s)
    exact ⟨tr, env, heq, hh, hr, by simpa using hm, by simp [hd]; omega⟩

@[simp] theorem xfers_cfg : (xfers ms s).cfg = s.cfg := by obtain ⟨_, _, h, -⟩ := xfers_frame ms s; rw [h]
@[simp] theorem xfers_host : (xfers ms s).host = s.host := by obtain ⟨_, _, h, -⟩ := xfers_frame ms s; rw [h]
@[simp] theorem xfers_op : (xfers ms s).op = s.op := by obtain ⟨_, _, h, -⟩ := xfers_frame ms s; rw [h]
@[simp] theorem xfers_initState : (xfers ms s).initState = s.initState := by
  obtain ⟨_, _, h, -⟩ := xfers_frame ms s; rw [h]
@[simp] theorem xfers_geom : (xfers ms s).geom = s.geom := by obtain ⟨_, _, h, -⟩ := xfers_frame ms s; rw [h]
@[simp] theorem xfers_bus : (xfers ms s).bus = s.bus := by obtain ⟨_, _, h, -⟩ := xfers_frame ms s; rw [h]
@[simp] theorem xfers_cmd : (xfers ms s).cmd = s.cmd := by obtain ⟨_, _, h, -⟩ := xfers_frame ms s; rw [h]
@[simp] theorem xfers_csd : (xfers ms s).csd = s.csd := by obtain ⟨_, _, h, -⟩ := xfers_frame ms s; rw [h]
@[simp] theorem xfers_seq : (xfers ms s).seq = s.seq := by obtain ⟨_, _, h, -⟩ := xfers_frame ms s; rw [h]
@[simp] theorem xfers_mem : (xfers ms s).mem = s.mem := by obtain ⟨_, _, h, -⟩ := xfers_frame ms s; rw [h]

@[simp] theorem xfers_env_host : (xfers ms s).env.host = s.env.host := by
  obtain ⟨_, _, h, hh, -⟩ := xfers_frame ms s; rw [h, hh]
@[simp] theorem xfers_drawn : (xfers ms s).env.drawn = s.env.drawn + ms.length := by
  obtain ⟨_, _, h, -, -, -, hd⟩ := xfers_frame ms s; rw [h, hd]

@[simp] theorem alone_xfers : Alone (xfers ms s) ↔ Alone s := alone_congr (xfers_cfg ms s) (xfers_env_host ms s)

theorem misoAt_xfers (k : Nat) : misoAt k (xfers ms s) = misoAt (ms.length + k) s := by
  induction ms generalizing s with
  | nil => simp
  | cons m ms ih => rw [xfers_cons, ih, misoAt_xfer, List.length_cons, Nat.add_right_comm]

theorem nextMiso_xfers : nextMiso (xfers ms s) = misoAt ms.length s := by
  rw [← misoAt_zero, misoAt_xfers, Nat.add_zero]

theorem trace_xfers : (xfers ms s).trace = s.trace ++ exchanges s.bus.csAsserted 0 ms s := by
  induction ms generalizing s with
  | nil => simp
  | cons m ms ih => rw [xfers_cons, ih, trace_xfer, exchanges_xfer, exchanges_cons]; simp

/-- The events of a second row, of bytes that come after the first. -/
theorem exchanges_xfers (cs : Bool) (first : Nat) (ns : List Byte) :
    exchanges cs first ns (xfers ms s) = exchanges cs (ms.length + first) ns s := by
  simp only [exchanges, misoAt_xfers, Nat.add_assoc]

end

/-! ### A row of polls -/

/-- `n` polls of 0xFF, each followed by `Sleep(ms)` (R261, R266). -/
def polls (ms : Word) : Nat → State → State
  | 0, s => s
  | n + 1, s => polls ms n (sleep ms (xfer 0xFF s))

section
variable (ms : Word) (n : Nat) (s : State)

@[simp] theorem polls_zero : polls ms 0 s = s := rfl

theorem polls_succ : polls ms (n + 1) s = sleep ms (xfer 0xFF (polls ms n s)) := by
  induction n generalizing s with
  | zero => rfl
  | succ n ih => exact ih (sleep ms (xfer 0xFF s))

/-- A row of polls writes TRACE and the card's coming bytes alone. -/
theorem polls_frame : ∃ tr env, polls ms n s = { s with traceRev := tr, env := env } ∧ env.host = s.env.host ∧
    env.miso = s.env.miso.drop n ∧ env.drawn = s.env.drawn + n := by
  induction n generalizing s with
  | zero => exact ⟨s.traceRev, s.env, rfl, rfl, rfl, rfl⟩
  | succ n ih =>
    obtain ⟨tr, env, heq, hh, hm, hd⟩ := ih (sleep ms (xfer 0xFF s))
    exact ⟨tr, env, heq, hh, by simpa using hm, by simp [hd]; omega⟩

@[simp] theorem polls_cfg : (polls ms n s).cfg = s.cfg := by obtain ⟨_, _, h, -⟩ := polls_frame ms n s; rw [h]
@[simp] theorem polls_op : (polls ms n s).op = s.op := by obtain ⟨_, _, h, -⟩ := polls_frame ms n s; rw [h]
@[simp] theorem polls_initState : (polls ms n s).initState = s.initState := by
  obtain ⟨_, _, h, -⟩ := polls_frame ms n s; rw [h]
@[simp] theorem polls_geom : (polls ms n s).geom = s.geom := by obtain ⟨_, _, h, -⟩ := polls_frame ms n s; rw [h]
@[simp] theorem polls_bus : (polls ms n s).bus = s.bus := by obtain ⟨_, _, h, -⟩ := polls_frame ms n s; rw [h]
@[simp] theorem polls_csd : (polls ms n s).csd = s.csd := by obtain ⟨_, _, h, -⟩ := polls_frame ms n s; rw [h]
@[simp] theorem polls_seq : (polls ms n s).seq = s.seq := by obtain ⟨_, _, h, -⟩ := polls_frame ms n s; rw [h]
@[simp] theorem polls_mem : (polls ms n s).mem = s.mem := by obtain ⟨_, _, h, -⟩ := polls_frame ms n s; rw [h]
@[simp] theorem polls_miso : (polls ms n s).env.miso = s.env.miso.drop n := by
  obtain ⟨_, _, h, -, hm, -⟩ := polls_frame ms n s; rw [h, hm]
@[simp] theorem polls_drawn : (polls ms n s).env.drawn = s.env.drawn + n := by
  obtain ⟨_, _, h, -, -, hd⟩ := polls_frame ms n s; rw [h, hd]

@[simp] theorem alone_polls : Alone (polls ms n s) ↔ Alone s := by
  obtain ⟨_, _, h, hh, -⟩ := polls_frame ms n s
  rw [h]
  exact alone_congr rfl hh

theorem misoAt_polls (k : Nat) : misoAt k (polls ms n s) = misoAt (n + k) s := by
  induction n generalizing s with
  | zero => simp
  | succ n ih => rw [polls, ih, misoAt_sleep, misoAt_xfer, Nat.add_right_comm]

theorem nextMiso_polls : nextMiso (polls ms n s) = misoAt n s := by
  rw [← misoAt_zero, misoAt_polls, Nat.add_zero]

theorem exchanges_polls (cs : Bool) (first : Nat) (ns : List Byte) :
    exchanges cs first ns (polls ms n s) = exchanges cs (n + first) ns s := by
  simp only [exchanges, misoAt_polls, Nat.add_assoc]

theorem trace_polls : (polls ms n s).trace = s.trace ++ pollEvents ms n s := by
  induction n with
  | zero => simp
  | succ n ih =>
    rw [polls_succ, trace_sleep, trace_xfer, ih, pollEvents_succ, misoAt_polls, polls_bus]
    simp

end

end Sys2Proof.Proofs
end

section
/-! SUPPORT. The encoding (30_encoding sections 1, 4, 6 and 7): the fields of an encoded word and the word of decoded fields,
then O1, O2, O3 and O4. -/

namespace Sys2Proof.Proofs
open Sys2Proof.Machine Sys2Proof.Laws

/-! ### The fields of an encoded word -/

@[simp] theorem hostWord_op (rest : BitVec 28) (op : BitVec 4) : (hostWord rest op).extractLsb' 0 4 = op := by
  simp (disch := omega) only [hostWord, BitVec.extractLsb'_append_eq_of_add_le]
  simp

@[simp] theorem hostWord_rest (rest : BitVec 28) (op : BitVec 4) : (hostWord rest op).extractLsb' 4 28 = rest := by
  simp (disch := omega) only [hostWord, BitVec.extractLsb'_append_eq_of_le]
  simp

/-- R140: OP, IOCTL_OP and the two fields around it. -/
theorem ioctlWord_fields (hi : BitVec 16) (iop : BitVec 8) (mid : BitVec 4) :
    (ioctlWord hi iop mid).extractLsb' 0 4 = 4 ∧ (ioctlWord hi iop mid).extractLsb' 8 8 = iop ∧
      (ioctlWord hi iop mid).extractLsb' 16 16 = hi ∧ (ioctlWord hi iop mid).extractLsb' 4 4 = mid := by
  simp (disch := omega) only [ioctlWord, BitVec.extractLsb'_append_eq_of_add_le, BitVec.extractLsb'_append_eq_of_le]
  simp

/-- R120: frame byte 0, the argument and the CRC byte. -/
theorem frameWord_fields (first : Byte) (arg : Word) (crc : Byte) :
    (frameWord first arg crc).extractLsb' 40 8 = first ∧ (frameWord first arg crc).extractLsb' 8 32 = arg ∧
      (frameWord first arg crc).extractLsb' 0 8 = crc := by
  simp (disch := omega) only [frameWord, BitVec.extractLsb'_append_eq_of_add_le, BitVec.extractLsb'_append_eq_of_le]
  simp

/-- The two texts of R130's condition: the mask, and the low five bits. -/
theorem responseIsRejection_iff (d : Byte) : responseIsRejection d = true ↔ d.extractLsb' 0 5 ≠ 0b00101 := by
  revert d
  decide

/-! ### Decoding an encoded instruction -/

/-- The arguments of decodeFrame's branches, as the fields of the word that `frameWord` builds. -/
theorem decodeFrame_frameWord (final : Bool) (first : Byte) (arg : Word) (crc : Byte) :
    decode (.frameOut final) (.frame (frameWord first arg crc)) =
      (if first = 0x40 ∧ arg = 0 ∧ crc = 0x95 then .ok .cmd0
      else if first = 0x48 ∧ arg = 0x1AA ∧ crc = 0x87 then .ok .cmd8
      else if first = 0x77 ∧ arg = 0 then .ok (.cmd55 crc)
      else if first = 0x69 ∧ arg = 0 then .ok (.acmd41V1 crc)
      else if first = 0x69 ∧ arg = 0x40000000 then .ok (.acmd41V2 crc)
      else if first = 0x7A ∧ arg = 0 then .ok (if final then .cmd58Final crc else .cmd58Loop crc)
      else if first = 0x49 ∧ arg = 0 then .ok (.cmd9 crc)
      else if first = 0x50 ∧ arg = 0x200 then .ok (.cmd16 crc)
      else if first = 0x51 then .ok (.cmd17 arg crc)
      else if first = 0x52 then .ok (.cmd18 arg crc)
      else if first = 0x4C ∧ arg = 0 then .ok (.cmd12 crc)
      else if first = 0x58 then .ok (.cmd24 arg crc)
      else if first = 0x59 then .ok (.cmd25 arg crc)
      else .error .frameNotEmitted) := by
  obtain ⟨hfirst, harg, hcrc⟩ := frameWord_fields first arg crc
  simp only [decode, decodeFrame, hfirst, harg, hcrc]

theorem decodeResponse_accepted (hi : BitVec 3) : decodeResponse (hi ++ (0b00101 : BitVec 5)) = .dataAccepted hi := by
  revert hi
  decide

theorem decodeR1_valid (low : BitVec 7) : decodeR1 ((0 : BitVec 1) ++ low) = .ok (.r1Valid low) := by
  revert low
  decide

/-- Settles O1, by the fields of the encoded word on each channel. -/
theorem decodeEncodeAgree : Obligations.DecodeEncodeAgree := by
  unfold Obligations.DecodeEncodeAgree
  intro i hwf
  cases i
  case ioctlSectorCount hi mid | ioctlSectorSize hi mid | ioctlCardType hi mid =>
    simp [channelOf, encode, decode, decodeHost, ioctlWord_fields]
  case ioctlOther hi iop mid =>
    simp only [WellFormed, ioctlOpIsOther, Bool.and_eq_true, bne_iff_ne, BitVec.ofNat_eq_ofNat, ne_eq] at hwf
    simp [channelOf, encode, decode, decodeHost, ioctlWord_fields, hwf]
  case dataRejected d =>
    have hd : d.extractLsb' 0 5 ≠ 0b00101 := (responseIsRejection_iff d).1 hwf
    simp only [channelOf, encode, decode, decodeResponse, if_neg hd]
  case dataAccepted hi => simp only [channelOf, encode, decode, decodeResponse_accepted]
  case r1Valid low => exact decodeR1_valid low
  case tokenStartRx | tokenStartTx | tokenMultiWrite | tokenStopTran | busy => rfl
  case cmd0 | cmd8 | cmd55 | acmd41V1 | acmd41V2 | cmd58Loop | cmd58Final | cmd9 | cmd16 | cmd17 | cmd18 | cmd12
      | cmd24 | cmd25 =>
    rw [channelOf, encode, decodeFrame_frameWord]
    simp
  all_goals simp [channelOf, encode, decode, decodeHost]

/-! ### Encoding a decoded instruction -/

/-- What `x` accepts is well-formed and encodes as `c`. -/
def EncodesTo (c : Code) (x : Except Reject Instr) : Prop := ∀ i, x = .ok i → WellFormed i = true ∧ encode i = c

theorem EncodesTo.ok {c : Code} {i : Instr} (hwf : WellFormed i = true) (h : encode i = c) : EncodesTo c (.ok i) := by
  rintro _ ⟨⟩
  exact ⟨hwf, h⟩

theorem EncodesTo.error (c : Code) (r : Reject) : EncodesTo c (.error r) := nofun

theorem EncodesTo.ite {c : Code} {p : Prop} [Decidable p] {x y : Except Reject Instr} (hx : p → EncodesTo c x)
    (hy : ¬p → EncodesTo c y) : EncodesTo c (if p then x else y) := iteInduction hx hy

/-- A word is the frame of its own fields (R120). -/
theorem frameWord_of_fields (f : FrameWord) :
    frameWord (f.extractLsb' 40 8) (f.extractLsb' 8 32) (f.extractLsb' 0 8) = f := by
  unfold frameWord
  ext i hi
  simp
  grind

theorem encodesTo_decodeFrame (final : Bool) (f : FrameWord) : EncodesTo (.frame f) (decodeFrame final f) := by
  have hword : ∀ {first : Byte} {arg : Word} {crc : Byte}, f.extractLsb' 40 8 = first → f.extractLsb' 8 32 = arg →
      f.extractLsb' 0 8 = crc → Code.frame (frameWord first arg crc) = .frame f := by
    rintro _ _ _ rfl rfl rfl
    rw [frameWord_of_fields]
  unfold decodeFrame
  iterate 2 refine .ite (fun ⟨hf, ha, hc⟩ => .ok rfl (hword hf ha hc)) fun _ => ?_
  iterate 3 refine .ite (fun ⟨hf, ha⟩ => .ok rfl (hword hf ha rfl)) fun _ => ?_
  refine .ite (fun ⟨hf, ha⟩ => by cases final <;> exact .ok rfl (hword hf ha rfl)) fun _ => ?_
  iterate 2 refine .ite (fun ⟨hf, ha⟩ => .ok rfl (hword hf ha rfl)) fun _ => ?_
  iterate 2 refine .ite (fun hf => .ok rfl (hword hf rfl rfl)) fun _ => ?_
  refine .ite (fun ⟨hf, ha⟩ => .ok rfl (hword hf ha rfl)) fun _ => ?_
  iterate 2 refine .ite (fun hf => .ok rfl (hword hf rfl rfl)) fun _ => ?_
  exact .error _ _

/-- R140, R141: every command word is one of the host rows' encodings, the last one by elimination. -/
theorem encodesTo_decodeHost (w : Word) : EncodesTo (.host w) (.ok (decodeHost w)) := by
  have row : ∀ {i : Instr} {op : BitVec 4}, WellFormed i = true →
      encode i = .host (hostWord (w.extractLsb' 4 28) op) → w.extractLsb' 0 4 = op → EncodesTo (.host w) (.ok i) :=
    fun hwf he h => .ok hwf (he.trans (congrArg Code.host (hostWord_of_fields w _ h)))
  have query : ∀ {i : Instr} {iop : BitVec 8}, WellFormed i = true →
      encode i = .host (ioctlWord (w.extractLsb' 16 16) iop (w.extractLsb' 4 4)) → w.extractLsb' 0 4 = 4 →
      w.extractLsb' 8 8 = iop → EncodesTo (.host w) (.ok i) :=
    fun hwf he h hi => .ok hwf (he.trans (congrArg Code.host (ioctlWord_of_fields w _ h hi)))
  simp only [decodeHost, apply_ite Except.ok]
  iterate 3 refine .ite (row rfl rfl) fun _ => ?_
  refine .ite (fun h => ?_) fun _ => ?_
  · refine .ite (query rfl rfl h) fun h4 => .ite (query rfl rfl h) fun h5 => .ite (query rfl rfl h) fun h6 => ?_
    exact query (by simpa [WellFormed, ioctlOpIsOther] using ⟨⟨h4, h5⟩, h6⟩) rfl h rfl
  iterate 11 refine .ite (row rfl rfl) fun _ => ?_
  exact row rfl rfl (by bv_omega)

theorem encodesTo_decodeByte (ch : Channel) (b : Byte) : EncodesTo (.byte b) (decode ch (.byte b)) := by
  cases ch with
  | hostCmd | frameOut => exact .error _ _
  | r1Poll =>
    refine .ite (fun h => .ok rfl ?_) fun _ => .error _ _
    revert b
    decide
  | tokenPoll => exact .ite (fun h => .ok rfl (h ▸ rfl)) fun _ => .error _ _
  | tokenOut =>
    refine .ite (fun h => .ok rfl (h ▸ rfl)) fun _ => .ite (fun h => .ok rfl (h ▸ rfl)) fun _ => ?_
    exact .ite (fun h => .ok rfl (h ▸ rfl)) fun _ => .error _ _
  | dataResponse =>
    rw [decode, decodeResponse, apply_ite Except.ok]
    refine .ite (fun h => .ok rfl ?_) fun h => .ok ((responseIsRejection_iff b).2 h) rfl
    revert b
    decide
  | busyPoll => exact .ite (fun h => .ok rfl (h ▸ rfl)) fun _ => .error _ _

/-- Settles O2, by the branches of the decoder of each channel. -/
theorem encodeDecodeAgree : Obligations.EncodeDecodeAgree := by
  unfold Obligations.EncodeDecodeAgree
  intro ch c
  cases c with
  | host w =>
    cases ch with
    | hostCmd => exact encodesTo_decodeHost w
    | frameOut | r1Poll | tokenPoll | tokenOut | dataResponse | busyPoll => exact EncodesTo.error _ _
  | frame f =>
    cases ch with
    | frameOut final => exact encodesTo_decodeFrame final f
    | hostCmd | r1Poll | tokenPoll | tokenOut | dataResponse | busyPoll => exact EncodesTo.error _ _
  | byte b => exact encodesTo_decodeByte ch b

/-! ### Words and constants -/

/-- Settles O3, by running the decoder. -/
theorem specWordsDecode : Obligations.SpecWordsDecode := by
  unfold Obligations.SpecWordsDecode
  decide

/-- Settles O4: the table's two constants are CMD0's and CMD8's bytes, and every other frame has the placeholder. -/
theorem crcByteIsTheConstantTable : Obligations.CrcByteIsTheConstantTable := by
  unfold Obligations.CrcByteIsTheConstantTable
  intro cfg index arg
  refine ⟨fun h => if_pos h, fun ⟨hi, ha⟩ => ?_, fun ⟨h0, h8⟩ => (if_neg h0).trans (if_neg h8)⟩
  subst hi ha
  rfl

end Sys2Proof.Proofs
end

section
/-! SUPPORT. The host's side: accesses that the map refuses (O6), register reads and plain writes (O7, O10), the decoded
instruction of a step (O5), and the host operations' acceptance, frame and starts (O14 to O19). -/

namespace Sys2Proof.Proofs
open Sys2Proof.Machine Sys2Proof.Laws

/-! ### Register accesses -/

/-- R40: the map's offsets are word-aligned and end at 0x44. -/
theorem regOffset_legal (r : Reg) : regOffset r % 4 = 0 ∧ regOffset r ≤ 0x44 := by cases r <;> decide

theorem accessedReg_eq_none {bytes offset : Nat} (h : bytes ≠ 4 ∨ offset % 4 ≠ 0 ∨ 0x44 < offset) :
    accessedReg bytes offset = none := by
  refine iteInduction (motive := (· = none)) (fun hb => ?_) fun _ => rfl
  refine List.find?_eq_none.2 fun r _ heq => ?_
  obtain ⟨halign, hend⟩ := regOffset_legal r
  rw [beq_iff_eq] at heq
  omega

/-- Settles O6: the step asks for a configuration first, and no register stands at another offset. -/
theorem otherAccessesAreRefused : Obligations.OtherAccessesAreRefused := by
  unfold Obligations.OtherAccessesAreRefused
  intro s
  refine ⟨fun h => step_of_invalid s ?_, fun bytes offset v rest hv hbad hh => ?_⟩
  · obtain h | h | h | h | h := h <;> simp [Config.Params.valid, h]
  · have hnone := accessedReg_eq_none hbad
    obtain hh | hh := hh <;> rw [step_of_valid s hv, turn_action s _ rest hh nofun]
    · simp only [hostTurn, hostWrite, hnone]
    · simp only [hostTurn, hostRead, hnone]

/-- Settles O7, by the step of a register read. -/
theorem registerReadHasNoSideEffect : Obligations.RegisterReadHasNoSideEffect := by
  unfold Obligations.RegisterReadHasNoSideEffect
  exact fun s r rest hv hh => step_read_regOffset hv hh

/-- Settles O10, by the step of a register write at the register's offset. -/
theorem plainRegisterWrites : Obligations.PlainRegisterWrites := by
  unfold Obligations.PlainRegisterWrites
  intro s v rest hv
  refine ⟨fun hh => step_write_regOffset (r := .blockNum) nofun hv hh,
    fun hh => step_write_regOffset (r := .bufAddr) nofun hv hh,
    fun hh => step_write_regOffset (r := .bufLen) nofun hv hh, fun r hr hh => ?_⟩
  have hcmd : r ≠ .cmd := by
    rintro rfl
    simp at hr
  rw [step_write_regOffset hcmd hv hh, writeReg_readOnly hr]

/-! ### The decoded instruction -/

/-- `meets` says of the decoder what `fetched` computes. -/
theorem fetched_of_meets {i : Instr} {s : State} (h : meets i s) : fetched s = some i := by
  obtain ⟨hpos, hdec⟩ | ⟨hpos, hdec⟩ | ⟨hpos, hdec⟩ | ⟨hpos, hdec⟩ | ⟨hpos, hdec⟩ | ⟨hpos, hdec⟩ := h <;>
    simp only [decode, Except.ok.injEq] at hdec <;> simp only [fetched, hpos, hdec, Except.toOption]

/-- Settles O5: a write at CMD's offset runs the decoded word, and in the framer's turns `fetched` is what it meets. -/
theorem stepRunsDecodedInstruction : Obligations.StepRunsDecodedInstruction := by
  unfold Obligations.StepRunsDecodedInstruction
  intro s i hv
  refine ⟨fun v rest hh hdec => ?_, fun hh hm => step_exec ⟨hv, hh⟩ (fetched_of_meets hm), fun rest hh hm => ?_,
    fun rest hh hdone hm => ?_⟩
  · have hi : decodeHost v = i := by simpa [decode] using hdec
    rw [step_of_valid s hv, turn_action s _ rest hh nofun, ← hi]
    rfl
  · rw [step_of_valid s hv, turn_action s _ rest hh nofun]
    exact framerTurn_of_fetched _ i (fetched_of_meets hm)
  · rw [step_of_valid s hv, turn_wait s rest hh, hdone]
    exact framerTurn_of_fetched s i (fetched_of_meets hm)

/-! ### What a dispatched operation writes -/

/-- Beside these fields a dispatched operation writes nothing in its own step (43_facade sections 1 to 4). -/
def DispatchWrites (s t : State) : Prop :=
  t = { s with
    op := { s.op with
      busy := t.op.busy, done := t.op.done, err := t.op.err, result := t.op.result, resValid := t.op.resValid,
      attempt := t.op.attempt }
    initState := t.initState, geom := t.geom, cmd := { s.cmd with frame := t.cmd.frame }, seq := t.seq }

theorem dispatchWrites_raiseAtOnce (kind : ErrCode) (s : State) : DispatchWrites s (raiseAtOnce kind s) := by
  unfold raiseAtOnce raise
  repeat' split
  all_goals rfl

theorem dispatchWrites_checkTransfer {body : State → State} {s : State} (h : DispatchWrites s (body s)) :
    DispatchWrites s (checkTransfer body s) := by
  obtain he | he := checkTransfer_cases body s <;> rw [he]
  · exact h
  · exact dispatchWrites_raiseAtOnce _ s

theorem dispatchWrites_ioctlWhenReady (answer : State → Word) (s : State) :
    DispatchWrites s (ioctlWhenReady answer s) := by
  obtain he | he := ioctlWhenReady_cases answer s <;> rw [he]
  · rfl
  · exact dispatchWrites_raiseAtOnce _ s

theorem dispatchWrites_dispatchOf (v : Word) (s : State) : DispatchWrites s (dispatchOf v s) := by
  unfold dispatchOf
  repeat' split
  · rfl
  · exact dispatchWrites_checkTransfer (by unfold readStart; split <;> rfl)
  · exact dispatchWrites_checkTransfer (by unfold writeStart; split <;> rfl)
  · exact dispatchWrites_ioctlWhenReady _ s
  · rfl
  · exact dispatchWrites_ioctlWhenReady _ s
  · exact dispatchWrites_raiseAtOnce _ s
  · exact dispatchWrites_raiseAtOnce _ s

theorem hasAccepted_of_dispatchWrites {v : Word} {s t : State} (h : DispatchWrites (acceptCommand v s) t) :
    hasAccepted v s t := by
  unfold DispatchWrites at h
  rw [h]
  exact hasAccepted_acceptCommand v s

/-- Settles O14: every word is dispatched from the accepted state, whose latches no operation writes. -/
theorem commandIsAcceptedWhenIdle : Obligations.CommandIsAcceptedWhenIdle := by
  unfold Obligations.CommandIsAcceptedWhenIdle
  intro v s hb
  rw [exec_decodeHost, hostCommand_of_idle _ _ _ hb]
  exact ⟨_, rfl, hasAccepted_of_dispatchWrites (dispatchWrites_dispatchOf v _)⟩

/-- Settles O15: every word is a host command, and a running operation ignores it but for OVR. -/
theorem commandWhileBusyOnlySetsOvr : Obligations.CommandWhileBusyOnlySetsOvr := by
  unfold Obligations.CommandWhileBusyOnlySetsOvr
  intro v s hb
  rw [exec_decodeHost, hostCommand_of_busy _ _ _ hb]

/-- Settles O16: what acceptance and a dispatched operation write leaves the frame's fields out. -/
theorem hostOperationsFrame : Obligations.HostOperationsFrame := by
  unfold Obligations.HostOperationsFrame
  intro v s t h
  rw [exec_decodeHost] at h
  cases h
  cases hb : s.op.busy with
  | true =>
    rw [hostCommand_of_busy _ _ _ hb]
    exact ⟨⟨rfl, rfl, rfl, rfl⟩, fun _ => rfl, rfl, rfl, rfl, rfl, rfl, rfl, rfl, rfl, rfl⟩
  | false =>
    rw [hostCommand_of_idle _ _ _ hb]
    have hw := dispatchWrites_dispatchOf v (acceptCommand v s)
    unfold DispatchWrites at hw
    rw [hw]
    exact ⟨⟨rfl, rfl, rfl, rfl⟩, fun _ => rfl, rfl, rfl, rfl, rfl, rfl, rfl, rfl, rfl, rfl⟩

/-! ### The starts of INIT, READ and WRITE -/

/-- Settles O17: INIT has no precondition, so its first assignments follow acceptance. -/
theorem initStarts : Obligations.InitStarts := by
  unfold Obligations.InitStarts
  intro rest s hb
  rw [exec, execInit, hostCommand_of_idle _ _ _ hb]
  exact ⟨_, rfl, hasAccepted_of_dispatchWrites rfl, rfl, rfl, rfl, rfl, rfl, rfl, rfl, rfl, rfl, rfl, rfl, rfl, rfl, rfl⟩

/-- R171: the frames of all commands but CMD0 and CMD8 carry the placeholder. -/
theorem crcByte_placeholder {cfg : Config.Params} {index : BitVec 6} (h : index ≠ 0 ∧ index ≠ 8) (arg : Word) :
    crcByte cfg index arg = cfg.crcPlaceholder :=
  (if_neg fun h0 => h.1 h0.1).trans (if_neg fun h8 => h.2 h8.1)

theorem startCommand_cmd (f : Form) (arg : Word) (s : State) :
    (startCommand f arg s).cmd = { s.cmd with frame := (startCommand f arg s).cmd.frame } := rfl

theorem startCommand_frame (f : Form) (arg : Word) (s : State) : (startCommand f arg s).cmd.frame.toList =
    (0x40 ||| (formIndex f).setWidth 8) :: (bigEndian arg ++ [crcByte s.cfg (formIndex f) arg]) := rfl

theorem protocolAddress_eq_ite (s : State) :
    protocolAddress s = if s.geom.addressUnit = .byte then s.op.latBlk * 512 else s.op.latBlk := by
  unfold protocolAddress
  cases s.geom.addressUnit <;> rfl

theorem readStart_eq (s : State) :
    readStart s = startCommand (if blockCount s = 1 then .cmd17 else .cmd18) (protocolAddress s) s := by
  unfold readStart
  split <;> rfl

theorem writeStart_eq (s : State) :
    writeStart s = startCommand (if blockCount s = 1 then .cmd24 else .cmd25) (protocolAddress s) s := by
  unfold writeStart
  split <;> rfl

/-- The form of a transfer's command: one block, or more (R271). -/
def transferForm (one more : Form) (s : State) : Form := if s.host.bufLen.toNat = 512 then one else more

/-- READ and WRITE start alike, each with its own two forms (R323, R324). -/
theorem exec_transfer {rest : BitVec 28} {i : Instr} {op : BitVec 4} {one more : Form} {s : State}
    (hb : s.op.busy = false) (hready : s.initState = .ready) (hlen : s.host.bufLen.toNat % 512 = 0)
    (hne : s.host.bufLen ≠ 0)
    (hi : (i = .read rest ∧ op = 2 ∧ one = .cmd17 ∧ more = .cmd18) ∨
      (i = .write rest ∧ op = 3 ∧ one = .cmd24 ∧ more = .cmd25)) :
    exec i s = .next (startCommand (transferForm one more s) (protocolAddress (acceptCommand (hostWord rest op) s))
      (acceptCommand (hostWord rest op) s)) := by
  have hok : ∀ v, lengthOk (acceptCommand v s) = true := fun v => by
    simpa [lengthOk, acceptCommand, Config.blockSize, hlen] using hne
  have hcount : ∀ v, blockCount (acceptCommand v s) = 1 ↔ s.host.bufLen.toNat = 512 := fun v => by
    simp only [blockCount, acceptCommand, Config.blockSize]
    omega
  unfold transferForm
  obtain ⟨rfl, rfl, rfl, rfl⟩ | ⟨rfl, rfl, rfl, rfl⟩ := hi
  · rw [exec, execRead, hostCommand_of_idle _ _ _ hb, checkTransfer_ok _ (acceptCommand _ s) hready (hok _), readStart_eq]
    simp only [hcount]
  · rw [exec, execWrite, hostCommand_of_idle _ _ _ hb, checkTransfer_ok _ (acceptCommand _ s) hready (hok _), writeStart_eq]
    simp only [hcount]

/-- Settles O18: the accepted state keeps the length and the geometry that choose the form and the address. -/
theorem transfersStart : Obligations.TransfersStart := by
  unfold Obligations.TransfersStart
  intro rest s i op one more oneByte moreByte hb hready hlen hne hi
  have hforms : ∀ f, f = one ∨ f = more → formIndex f ≠ 0 ∧ formIndex f ≠ 8 := by
    obtain ⟨-, -, rfl, rfl, -⟩ | ⟨-, -, rfl, rfl, -⟩ := hi <;> rintro _ (rfl | rfl) <;> decide
  have hbyte : (0x40 ||| (formIndex (transferForm one more s)).setWidth 8 : Byte) =
      if s.host.bufLen.toNat = 512 then oneByte else moreByte := by
    unfold transferForm
    obtain ⟨-, -, rfl, rfl, rfl, rfl⟩ | ⟨-, -, rfl, rfl, rfl, rfl⟩ := hi <;> split <;> rfl
  have hcrc : formIndex (transferForm one more s) ≠ 0 ∧ formIndex (transferForm one more s) ≠ 8 :=
    hforms _ (ite_eq_or_eq _ one more)
  have hexec := exec_transfer (rest := rest) (i := i) (op := op) (one := one) (more := more) hb hready hlen hne
    (by obtain ⟨hi, ho, h1, hm, -⟩ | ⟨hi, ho, h1, hm, -⟩ := hi
        · exact .inl ⟨hi, ho, h1, hm⟩
        · exact .inr ⟨hi, ho, h1, hm⟩)
  refine ⟨_, hexec, hasAccepted_of_dispatchWrites rfl, rfl, rfl, rfl, rfl, rfl, rfl, rfl, rfl, startCommand_cmd _ _ _, ?_,
    rfl, rfl, rfl, rfl, rfl, rfl⟩
  rw [startCommand_frame, hbyte, crcByte_placeholder hcrc, protocolAddress_eq_ite]
  rfl

/-- R322: the precondition of READ and WRITE, on the length that acceptance latches. -/
theorem not_ready_lengthOk {s : State} (v : Word)
    (h : s.initState ≠ .ready ∨ s.host.bufLen = 0 ∨ s.host.bufLen.toNat % 512 ≠ 0) :
    ¬((acceptCommand v s).initState = .ready ∧ lengthOk (acceptCommand v s) = true) := by
  rintro ⟨hready, hok⟩
  simp only [lengthOk, acceptCommand, Config.blockSize, Bool.and_eq_true, bne_iff_ne, beq_iff_eq] at hok
  obtain ⟨hne, hmod⟩ := hok
  obtain h | h | h := h
  · exact h hready
  · exact hne h
  · exact h hmod

/-- Settles O19: with the precondition false both only raise, and CS is deasserted between operations. -/
theorem transferPreconditionFails : Obligations.TransferPreconditionFails := by
  unfold Obligations.TransferPreconditionFails
  intro rest s hb hcs hbad
  have raises : ∀ (op : BitVec 4) (body : State → State),
      ∃ t, (.next (hostCommand (hostWord rest op) (checkTransfer body) s) : Host.Outcome State Fault Refusal) = .next t ∧
        hasAccepted (rest ++ op) s t ∧ hasCompleted .protocolViolation t ∧ t.op.result = s.op.result ∧
        t.op.resValid = false ∧ sameCardView s t ∧ noBusActivity s t := by
    intro op body
    rw [hostCommand_of_idle _ _ _ hb, checkTransfer_fails _ _ (not_ready_lengthOk _ hbad)]
    obtain ⟨hres, hvalid, hacc, hdone, -, hview, hbus⟩ :=
      raiseAtOnce_acceptCommand (hostWord rest op) .protocolViolation hcs
    exact ⟨_, rfl, hacc, hdone, hres, hvalid, hview, hbus⟩
  exact ⟨raises 2 readStart, raises 3 writeStart⟩

end Sys2Proof.Proofs
end

section
/-! SUPPORT. What the sequencer's functions keep, and the command frames (40_command_engine): O24, O25 and O28. -/

namespace Sys2Proof.Proofs
open Sys2Proof.Machine Sys2Proof.Laws

/-! ### Pure control -/

/-- From `s` to `t` the sequencer wrote registers and the position, and touched neither the bus nor TRACE, host memory, CSD,
the host's registers or what is outside the block. -/
def ControlWrites (s t : State) : Prop :=
  t = { s with op := t.op, initState := t.initState, geom := t.geom, cmd := t.cmd, seq := t.seq }

namespace ControlWrites

variable {s t u : State}

theorem eq (h : ControlWrites s t) :
    t = { s with op := t.op, initState := t.initState, geom := t.geom, cmd := t.cmd, seq := t.seq } := h

theorem trans (h : ControlWrites s t) (h' : ControlWrites t u) : ControlWrites s u := by
  unfold ControlWrites at h h' ⊢
  rw [h', h]

theorem cfg (h : ControlWrites s t) : t.cfg = s.cfg := (congrArg State.cfg h.eq :)
theorem host (h : ControlWrites s t) : t.host = s.host := (congrArg State.host h.eq :)
theorem bus (h : ControlWrites s t) : t.bus = s.bus := (congrArg State.bus h.eq :)
theorem csd (h : ControlWrites s t) : t.csd = s.csd := (congrArg State.csd h.eq :)
theorem traceRev (h : ControlWrites s t) : t.traceRev = s.traceRev := (congrArg State.traceRev h.eq :)
theorem trace (h : ControlWrites s t) : t.trace = s.trace := trace_congr h.traceRev
theorem mem (h : ControlWrites s t) : t.mem = s.mem := (congrArg State.mem h.eq :)
theorem env (h : ControlWrites s t) : t.env = s.env := (congrArg State.env h.eq :)
theorem alone (h : ControlWrites s t) : Alone t ↔ Alone s := alone_congr h.cfg (congrArg Env.host h.env)

end ControlWrites

/-- What the callers of SendCommand write when it returns: no operation register, of the command engine's registers FRAME
alone, and of the position's locals neither R1 nor the counter nor the byte in transit. -/
def ReturnWrites (s t : State) : Prop :=
  t = { s with
    initState := t.initState, geom := t.geom, cmd := { s.cmd with frame := t.cmd.frame }
    seq := { s.seq with pos := t.seq.pos, form := t.seq.form, iter := t.seq.iter, tok := t.seq.tok, code := t.seq.code } }

namespace ReturnWrites

variable {s t u : State}

theorem eq (h : ReturnWrites s t) : t = { s with
    initState := t.initState, geom := t.geom, cmd := { s.cmd with frame := t.cmd.frame }
    seq := { s.seq with pos := t.seq.pos, form := t.seq.form, iter := t.seq.iter, tok := t.seq.tok,
                        code := t.seq.code } } := h

theorem trans (h : ReturnWrites s t) (h' : ReturnWrites t u) : ReturnWrites s u := by
  unfold ReturnWrites at h h' ⊢
  rw [h', h]

theorem control (h : ReturnWrites s t) : ControlWrites s t := by
  unfold ReturnWrites at h
  rw [h]
  rfl

theorem op (h : ReturnWrites s t) : t.op = s.op := (congrArg State.op h.eq :)
theorem cmd (h : ReturnWrites s t) : t.cmd = { s.cmd with frame := t.cmd.frame } := (congrArg State.cmd h.eq :)
theorem r1 (h : ReturnWrites s t) : t.seq.r1 = s.seq.r1 := (congrArg (fun u => u.seq.r1) h.eq :)

end ReturnWrites

theorem returnWrites_raise (kind : ErrCode) (s : State) : ReturnWrites s (raise kind s) := by
  unfold raise
  split <;> rfl

theorem returnWrites_attemptFailed (s : State) : ReturnWrites s (attemptFailed s) := by
  unfold attemptFailed
  split
  · exact ReturnWrites.trans (t := { s with initState := .fail }) rfl (returnWrites_raise _ _)
  · rfl

theorem returnWrites_initFail (s : State) : ReturnWrites s (initFail s) := by
  unfold initFail
  split
  · rfl
  · exact returnWrites_attemptFailed s

/-- The caller of SendCommand ends in a raise, in Fail, or in assignments (R180 to R193). -/
theorem returnWrites_commandReturn (r : Option Byte) (s : State) : ReturnWrites s (commandReturn r s) := by
  have hfail := returnWrites_initFail s
  have hraise := fun kind => returnWrites_raise kind s
  unfold commandReturn
  cases s.seq.form
  case cmd0 | cmd58Final | cmd9 | cmd16 => exact iteInduction (fun _ => rfl) fun _ => hfail
  case cmd8 => exact iteInduction (fun _ => rfl) fun _ => iteInduction (fun _ => rfl) fun _ => hfail
  case cmd55 | acmd41V1 | acmd41V2 => exact iteInduction (fun _ => rfl) fun _ => rfl
  case cmd58Loop => rfl
  case cmd17 | cmd18 | cmd12 | cmd24 | cmd25 =>
    exact iteInduction (fun _ => hraise _) fun _ => iteInduction (fun _ => rfl) fun _ => hraise _

/-- SendCommand's last assignments (R172), before its caller goes on. -/
def recorded (r : Option Byte) (s : State) : State :=
  { s with
    cmd := { s.cmd with
      lastIdx := formIndex s.seq.form, lastR1 := r.getD s.cmd.lastR1, lastTo := r.isNone, lastValid := true } }

@[simp] theorem recorded_cfg (r : Option Byte) (s : State) : (recorded r s).cfg = s.cfg := rfl
@[simp] theorem recorded_op (r : Option Byte) (s : State) : (recorded r s).op = s.op := rfl
@[simp] theorem recorded_initState (r : Option Byte) (s : State) : (recorded r s).initState = s.initState := rfl
@[simp] theorem recorded_geom (r : Option Byte) (s : State) : (recorded r s).geom = s.geom := rfl
@[simp] theorem recorded_bus (r : Option Byte) (s : State) : (recorded r s).bus = s.bus := rfl
@[simp] theorem recorded_seq (r : Option Byte) (s : State) : (recorded r s).seq = s.seq := rfl
@[simp] theorem recorded_csd (r : Option Byte) (s : State) : (recorded r s).csd = s.csd := rfl
@[simp] theorem recorded_mem (r : Option Byte) (s : State) : (recorded r s).mem = s.mem := rfl
@[simp] theorem recorded_traceRev (r : Option Byte) (s : State) : (recorded r s).traceRev = s.traceRev := rfl
@[simp] theorem recorded_env (r : Option Byte) (s : State) : (recorded r s).env = s.env := rfl

theorem endCommand_eq (r : Option Byte) (s : State) : endCommand r s = commandReturn r (recorded r s) := rfl

theorem returnWrites_endCommand (r : Option Byte) (s : State) : ReturnWrites (recorded r s) (endCommand r s) :=
  returnWrites_commandReturn r (recorded r s)

theorem controlWrites_endCommand (r : Option Byte) (s : State) : ControlWrites s (endCommand r s) :=
  ControlWrites.trans (t := recorded r s) rfl (returnWrites_endCommand r s).control

/-- `s` with R1 in SendCommand's `b` (R172). -/
def holdR1 (b : Byte) (s : State) : State := { s with seq := { s.seq with r1 := b } }

@[simp] theorem holdR1_cfg (b : Byte) (s : State) : (holdR1 b s).cfg = s.cfg := rfl
@[simp] theorem holdR1_op (b : Byte) (s : State) : (holdR1 b s).op = s.op := rfl
@[simp] theorem holdR1_initState (b : Byte) (s : State) : (holdR1 b s).initState = s.initState := rfl
@[simp] theorem holdR1_geom (b : Byte) (s : State) : (holdR1 b s).geom = s.geom := rfl
@[simp] theorem holdR1_bus (b : Byte) (s : State) : (holdR1 b s).bus = s.bus := rfl
@[simp] theorem holdR1_cmd (b : Byte) (s : State) : (holdR1 b s).cmd = s.cmd := rfl
@[simp] theorem holdR1_csd (b : Byte) (s : State) : (holdR1 b s).csd = s.csd := rfl
@[simp] theorem holdR1_trace (b : Byte) (s : State) : (holdR1 b s).trace = s.trace := rfl
@[simp] theorem holdR1_mem (b : Byte) (s : State) : (holdR1 b s).mem = s.mem := rfl
@[simp] theorem holdR1_env (b : Byte) (s : State) : (holdR1 b s).env = s.env := rfl
@[simp] theorem holdR1_seq (b : Byte) (s : State) : (holdR1 b s).seq = { s.seq with r1 := b } := rfl
@[simp] theorem misoAt_holdR1 (k : Nat) (b : Byte) (s : State) : misoAt k (holdR1 b s) = misoAt k s := rfl
@[simp] theorem alone_holdR1 (b : Byte) (s : State) : Alone (holdR1 b s) ↔ Alone s := Iff.rfl

theorem controlWrites_afterTrailing (s : State) : ControlWrites s (afterTrailing s) := by
  unfold afterTrailing
  split
  · rfl
  · exact controlWrites_endCommand _ s

theorem controlWrites_afterR1 (b : Byte) (s : State) : ControlWrites s (afterR1 b s) := by
  unfold afterR1
  dsimp only
  split
  · rfl
  · exact ControlWrites.trans (t := holdR1 b s) rfl (controlWrites_afterTrailing _)

theorem controlWrites_nextIteration (s : State) : ControlWrites s (nextIteration s) := by
  unfold nextIteration
  dsimp only
  repeat' split
  · rfl
  · rfl
  · exact (returnWrites_initFail s).control

theorem controlWrites_recvTimeout (s : State) : ControlWrites s (recvTimeout s) := by
  unfold recvTimeout
  split
  · exact (returnWrites_initFail s).control
  · exact (returnWrites_raise _ s).control

/-- A block is counted, with its progress event (R276). -/
def counted (s : State) : State := progress (countBlock s).op.blocksDone.toNat (countBlock s)

theorem controlWrites_counted (s : State) : ControlWrites s (counted s) := by
  unfold counted progress
  split <;> rfl

theorem controlWrites_readBlockDone (s : State) : ControlWrites s (readBlockDone s) := by
  unfold readBlockDone
  dsimp only
  repeat' split
  · rfl
  · exact (controlWrites_counted s).trans rfl
  · exact (controlWrites_counted s).trans rfl

theorem controlWrites_recvDone (s : State) : ControlWrites s (recvDone s) := by
  unfold recvDone csdDone parseGeometry
  repeat' split
  · rfl
  · rfl
  · exact controlWrites_readBlockDone s

theorem controlWrites_chunkDone (s : State) : ControlWrites s (chunkDone s) := by
  unfold chunkDone
  dsimp only
  split <;> exact (controlWrites_counted s).trans rfl

theorem controlWrites_blockAccepted (s : State) : ControlWrites s (blockAccepted s) := by
  unfold blockAccepted
  repeat' split
  · rfl
  · rfl
  · exact controlWrites_chunkDone s

theorem controlWrites_busyDone (s : State) : ControlWrites s (busyDone s) := by
  unfold busyDone
  split
  · exact controlWrites_chunkDone s
  · rfl

/-! ### The frames -/

theorem hasBegun_beginCommand (f : Form) (arg : Word) (crc : Byte) (s : State) :
    hasBegun f ((0x40 ||| (formIndex f).setWidth 8) :: (bigEndian arg ++ [crc])) s (beginCommand f arg crc s) :=
  ⟨rfl, rfl, rfl, rfl⟩

/-- Settles O24: every frame's meaning is `beginCommand` with its form, argument and CRC byte. -/
theorem framesBegin : Obligations.FramesBegin := by
  unfold Obligations.FramesBegin
  intro paddr crc s
  refine ⟨?_, ?_, ?_, ?_, ?_, ?_, ?_, ?_, ?_, ?_, ?_, ?_, ?_, ?_⟩ <;> exact ⟨_, rfl, hasBegun_beginCommand _ _ _ s⟩

/-- Settles O25: `beginCommand` writes FRAME, CS with its event, and the position. -/
theorem framesFrame : Obligations.FramesFrame := by
  unfold Obligations.FramesFrame
  intro i f s t hf h
  obtain ⟨arg, crc, he⟩ := exec_of_frame hf s
  rw [he] at h
  cases h
  exact ⟨rfl, rfl, rfl, rfl, rfl, rfl, rfl, rfl, rfl, fun _ => rfl, rfl⟩

/-! ### A valid R1 (R173, R174) -/

theorem afterR1_of_trailing (b : Byte) {s : State} (h : 0 < trailingCount (formTrailing s.seq.form)) :
    afterR1 b s = enter .cmdTrail (holdR1 b s) := if_pos h

theorem afterR1_of_none (b : Byte) {s : State} (h : trailingCount (formTrailing s.seq.form) = 0) :
    afterR1 b s = afterTrailing (holdR1 b s) := if_neg (by rw [h]; decide)

theorem afterTrailing_of_release {s : State} (h : formRelease s.seq.form = true) : afterTrailing s = goto .cmdRelease s :=
  if_pos h

theorem afterTrailing_of_hold {s : State} (h : formRelease s.seq.form = false) :
    afterTrailing s = endCommand (some s.seq.r1) s := if_neg (by rw [h]; decide)

/-- The forms that exchange trailing bytes, that only release, and that hold CS (R142). -/
inductive FormKind (f : Form) : Prop where
  | trails (hcount : trailingCount (formTrailing f) = 4) (hrel : formRelease f = true)
      (hf : f = .cmd8 ∨ f = .cmd58Loop ∨ f = .cmd58Final)
  | releases (hcount : trailingCount (formTrailing f) = 0) (hcap : trailingCaptures (formTrailing f) = false)
      (hrel : formRelease f = true) (hf : f ∉ [Form.cmd8, .cmd58Loop, .cmd58Final, .cmd9, .cmd17, .cmd18])
  | holds (hcount : trailingCount (formTrailing f) = 0) (hcap : trailingCaptures (formTrailing f) = false)
      (hrel : formRelease f = false) (hf : f = .cmd9 ∨ f = .cmd17 ∨ f = .cmd18)

theorem formKind (f : Form) : FormKind f := by
  cases f
  case cmd8 | cmd58Loop | cmd58Final => exact .trails rfl rfl (by decide)
  case cmd9 | cmd17 | cmd18 => exact .holds rfl rfl rfl (by decide)
  all_goals exact .releases rfl rfl rfl (by decide)

/-- R234, R272, R273: the callers of the commands that hold CS receive a block after 0x00, and otherwise fail or raise. -/
theorem commandReturn_of_hold {s : State} (h : s.seq.form = .cmd9 ∨ s.seq.form = .cmd17 ∨ s.seq.form = .cmd18) (b : Byte) :
    commandReturn (some b) s =
      if b = 0 then goto .recvAssert s else if s.seq.form = .cmd9 then initFail s else raise .illegalCommand s := by
  obtain h | h | h := h <;> simp [commandReturn, h]

theorem valid_r1_eq_zero (low : BitVec 7) : ((0 : BitVec 1) ++ low : Byte) = 0 ↔ low = 0 := by
  revert low
  decide

/-- R1 other than 0x00 in a form that holds CS: CS being asserted, Abort comes next (R176). -/
theorem endCommand_of_hold_aborts {b : Byte} {s : State}
    (hf : s.seq.form = .cmd9 ∨ s.seq.form = .cmd17 ∨ s.seq.form = .cmd18) (hb : b ≠ 0) (hcs : s.bus.csAsserted = true) :
    (endCommand (some b) s).seq.pos = .abortRelease ∧
      (s.seq.form ≠ .cmd9 → (endCommand (some b) s).seq.code = .illegalCommand) := by
  rw [endCommand_eq, commandReturn_of_hold (s := recorded (some b) s) hf, if_neg hb,
    initFail_of_asserted (recorded (some b) s) hcs, raise_of_asserted _ (recorded (some b) s) hcs, recorded_seq]
  by_cases h9 : s.seq.form = .cmd9
  · rw [if_pos h9]
    exact ⟨rfl, fun h => absurd h9 h⟩
  · rw [if_neg h9]
    exact ⟨rfl, fun _ => rfl⟩

/-- Settles O28, by whether the form has trailing bytes, only releases, or holds CS. -/
theorem validR1EndsThePoll : Obligations.ValidR1EndsThePoll := by
  unfold Obligations.ValidR1EndsThePoll
  intro low s
  have htrace := (controlWrites_afterR1 ((0 : BitVec 1) ++ low) (exchange 0xFF ((0 : BitVec 1) ++ low) s)).traceRev
  refine ⟨_, rfl, htrace, ?_⟩
  generalize hb : ((0 : BitVec 1) ++ low : Byte) = b
  have hzero : b = 0 ↔ low = 0 := hb ▸ valid_r1_eq_zero low
  simp only [List.mem_cons, List.not_mem_nil, or_false]
  cases formKind s.seq.form with
  | trails hcount hrel hf =>
    have hnext : afterR1 b (exchange 0xFF b s) = enter .cmdTrail (holdR1 b (exchange 0xFF b s)) :=
      afterR1_of_trailing b (by simp [hcount])
    rw [hnext]
    exact ⟨rfl, fun _ => ⟨rfl, rfl, rfl⟩, fun hf' => by grind, fun hf' => by grind⟩
  | releases hcount hcap hrel hf =>
    have hnext : afterR1 b (exchange 0xFF b s) = goto .cmdRelease (holdR1 b (exchange 0xFF b s)) :=
      (afterR1_of_none (s := exchange 0xFF b s) b hcount).trans (afterTrailing_of_release (s := holdR1 b _) hrel)
    rw [hnext]
    exact ⟨rfl, fun hf' => by grind, fun _ => ⟨rfl, rfl⟩, fun hf' => by grind⟩
  | holds hcount hcap hrel hf =>
    have hnext : afterR1 b (exchange 0xFF b s) = endCommand (some b) (holdR1 b (exchange 0xFF b s)) :=
      (afterR1_of_none (s := exchange 0xFF b s) b hcount).trans (afterTrailing_of_hold (s := holdR1 b _) hrel)
    rw [hnext]
    have hw := returnWrites_endCommand (some b) (holdR1 b (exchange 0xFF b s))
    have habort := fun (h : b ≠ 0) hcs => endCommand_of_hold_aborts (s := holdR1 b (exchange 0xFF b s)) hf h hcs
    refine ⟨hw.r1, fun hf' => by grind, fun hf' => by grind, fun _ =>
      ⟨(congrArg CmdRegs.lastR1 hw.cmd :), (congrArg CmdRegs.lastTo hw.cmd :), (congrArg CmdRegs.lastIdx hw.cmd :),
        (congrArg CmdRegs.lastValid hw.cmd :), fun h0 => ?_,
        fun h0 hcs => (habort (mt hzero.1 h0) hcs).1, fun h0 hcs h9 => (habort (mt hzero.1 h0) hcs).2 h9⟩⟩
    rw [endCommand_eq, commandReturn_of_hold (s := recorded _ (holdR1 b (exchange 0xFF b s))) hf, if_pos (hzero.2 h0)]
    rfl

end Sys2Proof.Proofs
end

section
/-! SUPPORT. SendCommand as a whole (40_command_engine section 1): O26 and O27. The run goes from the call to the R1 poll, over
the polls, over the trailing bytes and over the release. -/

namespace Sys2Proof.Proofs
open Sys2Proof.Machine Sys2Proof.Laws

/-! ### From the call to the first frame byte -/

/-- R120, R121: the bytes built for a command are its frame word. -/
theorem frameAsWord_frameBytes (index : BitVec 6) (arg : Word) (crc : Byte) :
    frameAsWord (frameBytes index arg crc) = frameWord (0x40 ||| index.setWidth 8) arg crc := by
  unfold frameAsWord frameBytes frameWord
  ext i hi
  simp
  grind

theorem frameOfWord_frameAsWord (f : Vector Byte 6) : frameOfWord (frameAsWord f) = f := by
  ext i hi
  unfold frameOfWord frameAsWord
  simp (disch := omega) only [BitVec.extractLsb'_append_eq_of_add_le, BitVec.extractLsb'_append_eq_of_le]
  interval_cases i <;> simp

/-- A frame's meaning builds the bytes that its encoding reads. -/
theorem exec_of_frame_encode {i : Instr} {f : Form} (h : formOfInstr i = some f) (s : State) :
    ∃ arg crc, exec i s = .next (beginCommand f arg crc s) ∧
      encode i = .frame (frameAsWord (frameBytes (formIndex f) arg crc)) := by
  cases i <;> cases h <;> refine ⟨_, _, rfl, ?_⟩ <;> rw [frameAsWord_frameBytes] <;> rfl

theorem meets_frame {i : Instr} {f : Form} {s : State} (hm : meets i s) (hf : formOfInstr i = some f) :
    s.seq.pos = .cmdIssue ∧ encode i = .frame (frameAsWord s.cmd.frame) := by
  obtain ⟨hpos, ⟨_, h⟩⟩ | ⟨-, ⟨low, rfl⟩⟩ | ⟨-, rfl⟩ | ⟨-, rfl | rfl | rfl⟩ | ⟨-, ⟨up, rfl⟩ | ⟨d, rfl⟩⟩ | ⟨-, rfl⟩ :=
    fetched_cases (fetched_of_meets hm)
  case inl =>
    obtain ⟨-, hdec⟩ | ⟨hp, -⟩ | ⟨hp, -⟩ | ⟨hp, -⟩ | ⟨hp, -⟩ | ⟨hp, -⟩ := hm
    · exact ⟨hpos, (encodesTo_decodeFrame _ _ _ hdec).2⟩
    all_goals simp [hpos] at hp
  all_goals simp [formOfInstr] at hf

/-- R172: the call asserts CS; FRAME, which the caller has built, is what goes out. -/
theorem step_cmdIssue {i : Instr} {s : State} (ha : Alone s) (hm : meets i s) (hf : formOfInstr i = some s.seq.form) :
    step s = .next (pass .cmdFrame 0 (csAssert s)) := by
  obtain ⟨-, henc⟩ := meets_frame hm hf
  obtain ⟨arg, crc, hexec, henc'⟩ := exec_of_frame_encode hf s
  have hword : frameAsWord (frameBytes (formIndex s.seq.form) arg crc) = frameAsWord s.cmd.frame := by
    simpa using henc'.symm.trans henc
  have hframe : frameBytes (formIndex s.seq.form) arg crc = s.cmd.frame := by
    rw [← frameOfWord_frameAsWord (frameBytes _ _ _), hword, frameOfWord_frameAsWord]
  rw [step_exec ha (fetched_of_meets hm), hexec]
  unfold beginCommand
  rw [hframe]
  rfl

/-! ### The frame bytes and the filler -/

theorem step_cmdFrame_more {k : Nat} {s : State} (ha : Alone s) (hk : k + 1 < 6) :
    step (pass .cmdFrame k s) = .next (pass .cmdFrame (k + 1) (xfer (frameByte s.cmd.frame k) s)) := by
  rw [step_pass ha rfl]
  exact congrArg _ (if_pos hk)

theorem frame_take_succ (f : Vector Byte 6) {k : Nat} (hk : k < 6) :
    f.toList.take (k + 1) = f.toList.take k ++ [frameByte f k] := by
  have hlen : k < f.toList.length := by simpa using hk
  rw [List.take_succ_eq_append_getElem hlen, frameByte, List.getD_eq_getElem _ _ hlen]

theorem run_cmdFrame {s : State} (ha : Alone s) :
    runSteps 5 (pass .cmdFrame 0 s) = .next (pass .cmdFrame 5 (xfers (s.cmd.frame.toList.take 5) s)) := by
  refine run_loop .cmdFrame (fun k => xfers (s.cmd.frame.toList.take k) s) 1 (n := 5) fun k hk => ?_
  have hstep := step_cmdFrame_more (s := xfers (s.cmd.frame.toList.take k) s) (by simpa using ha) (Nat.succ_lt_succ hk)
  rw [xfers_cmd, ← xfers_concat, ← frame_take_succ _ (by omega)] at hstep
  exact runSteps_one_of_next hstep

theorem step_cmdSkip {k : Nat} {s : State} (ha : Alone s) :
    step (pass .cmdSkip k s) = .next (pass .cmdPoll 0 (xfer 0xFF s)) := step_pass ha rfl

/-- The exchanges before the R1 poll (R172): the frame, and the filler where the form skips the first byte. -/
theorem run_toPoll {s : State} (ha : Alone s) :
    runSteps (6 + skipCount s) (pass .cmdFrame 0 s) =
      .next (pass .cmdPoll 0 (xfers (s.cmd.frame.toList ++ List.replicate (skipCount s) 0xFF) s)) := by
  have hlast : xfer (frameByte s.cmd.frame 5) (xfers (s.cmd.frame.toList.take 5) s) = xfers s.cmd.frame.toList s := by
    rw [← xfers_concat, ← frame_take_succ _ (by decide), List.take_of_length_le (by simp)]
  have hstep : step (pass .cmdFrame 5 (xfers (s.cmd.frame.toList.take 5) s)) =
      .next (if formSkipFirst s.cfg s.seq.form then pass .cmdSkip 5 (xfers s.cmd.frame.toList s)
        else pass .cmdPoll 0 (xfers s.cmd.frame.toList s)) := by
    rw [step_pass (by simpa using ha) rfl]
    simp [primitive, stepCmdFrame, hlast]
  have hframe := runSteps_trans_step (run_cmdFrame ha) hstep
  unfold skipCount
  split at hframe
  case isTrue h =>
    rw [if_pos h, xfers_append]
    exact runSteps_trans_step hframe (step_cmdSkip (by simpa using ha))
  case isFalse h =>
    rw [if_neg h, List.replicate_zero, List.append_nil]
    exact hframe

/-! ### The R1 poll (R173) -/

/-- R122: bit 7 alone tells a valid R1. -/
theorem decodeR1_of_msb (b : Byte) :
    (b.getLsbD 7 = true → (decodeR1 b).toOption = none) ∧
      (b.getLsbD 7 = false → (decodeR1 b).toOption = some (.r1Valid (b.extractLsb' 0 7)) ∧
        (0 : BitVec 1) ++ b.extractLsb' 0 7 = b) := by
  revert b
  decide

theorem step_cmdPoll_miss {k : Nat} {s : State} (ha : Alone s) (hb : (nextMiso s).getLsbD 7 = true) :
    step (pass .cmdPoll k s) =
      .next (if k + 1 < s.cfg.r1PollBudget.toNat then pass .cmdPoll (k + 1) (xfer 0xFF s)
        else pass .cmdTimeout k (xfer 0xFF s)) := by
  rw [step_primitive (s := pass .cmdPoll k s) ha ((decodeR1_of_msb _).1 hb)]
  rfl

theorem step_cmdPoll_valid {k : Nat} {s : State} (ha : Alone s) (hb : (nextMiso s).getLsbD 7 = false) :
    step (pass .cmdPoll k s) = .next (afterR1 (nextMiso s) (pass .cmdPoll k (xfer 0xFF s))) := by
  obtain ⟨hfetched, hword⟩ := (decodeR1_of_msb (nextMiso s)).2 hb
  rw [step_exec (s := pass .cmdPoll k s) ha hfetched]
  simp only [exec, execR1Valid, hword]
  rfl

theorem run_cmdPoll_misses {s : State} (ha : Alone s) {n : Nat} (hn : n < s.cfg.r1PollBudget.toNat)
    (hmiss : ∀ k, k < n → (misoAt k s).getLsbD 7 = true) :
    runSteps n (pass .cmdPoll 0 s) = .next (pass .cmdPoll n (xfers (List.replicate n 0xFF) s)) := by
  have hrun := run_loop .cmdPoll (fun k => xfers (List.replicate k 0xFF) s) 1 (n := n) fun k hk => by
    have hstep := step_cmdPoll_miss (k := k) (s := xfers (List.replicate k 0xFF) s) (by simpa using ha)
      (by simpa [nextMiso_xfers] using hmiss k hk)
    rw [xfers_cfg, if_pos (by omega), ← xfers_replicate_succ] at hstep
    exact runSteps_one_of_next hstep
  rwa [Nat.one_mul] at hrun

/-- The poll that ends with a valid R1, after `n` misses within the budget. -/
theorem run_cmdPoll_valid {s : State} (ha : Alone s) {n : Nat} (hn : n < s.cfg.r1PollBudget.toNat)
    (hmiss : ∀ k, k < n → (misoAt k s).getLsbD 7 = true) (hvalid : (misoAt n s).getLsbD 7 = false) :
    runSteps (n + 1) (pass .cmdPoll 0 s) =
      .next (afterR1 (misoAt n s) (pass .cmdPoll n (xfers (List.replicate (n + 1) 0xFF) s))) := by
  have hnext : nextMiso (xfers (List.replicate n 0xFF) s) = misoAt n s := by simp [nextMiso_xfers]
  have hstep := step_cmdPoll_valid (k := n) (s := xfers (List.replicate n 0xFF) s) (by simpa using ha)
    (by rw [hnext]; exact hvalid)
  rw [hnext, ← xfers_replicate_succ] at hstep
  exact runSteps_trans_step (run_cmdPoll_misses ha hn hmiss) hstep

/-- The poll that runs out of its budget `n`. -/
theorem run_cmdPoll_timeout {s : State} (ha : Alone s) {n : Nat} (hn : n = s.cfg.r1PollBudget.toNat) (hpos : 0 < n)
    (hmiss : ∀ k, k < n → (misoAt k s).getLsbD 7 = true) :
    runSteps n (pass .cmdPoll 0 s) = .next (pass .cmdTimeout (n - 1) (xfers (List.replicate n 0xFF) s)) := by
  obtain ⟨n, rfl⟩ := Nat.exists_eq_succ_of_ne_zero hpos.ne'
  have hstep := step_cmdPoll_miss (k := n) (s := xfers (List.replicate n 0xFF) s) (by simpa using ha)
    (by simpa [nextMiso_xfers] using hmiss n (by omega))
  rw [xfers_cfg, if_neg (by omega), ← xfers_replicate_succ] at hstep
  exact runSteps_trans_step (run_cmdPoll_misses ha (by omega) fun k hk => hmiss k (by omega)) hstep

/-! ### The trailing bytes (R174) -/

/-- `v` with its first `k` bytes set, one after the other, to `f 0`, `f 1`, … -/
def fillWith {n : Nat} (f : Nat → Byte) (v : Vector Byte n) : Nat → Vector Byte n
  | 0 => v
  | k + 1 => (fillWith f v k).setIfInBounds k (f k)

theorem fillWith_getElem {n : Nat} (f : Nat → Byte) (v : Vector Byte n) (k : Nat) {i : Nat} (hi : i < n) :
    (fillWith f v k)[i] = if i < k then f i else v[i] := by
  induction k with
  | zero => rfl
  | succ k ih =>
    rw [fillWith, Vector.getElem_setIfInBounds hi, ih]
    grind

theorem fillWith_toList {n : Nat} (f : Nat → Byte) (v : Vector Byte n) {k : Nat} (hk : k ≤ n) :
    (fillWith f v k).toList = (List.range k).map f ++ v.toList.drop k := by
  refine List.ext_getElem (by simp; omega) fun i hi _ => ?_
  have hi : i < n := by simpa using hi
  rw [Vector.getElem_toList, fillWith_getElem f v k hi]
  split
  case isTrue h =>
    rw [List.getElem_append_left (by simpa using h)]
    simp
  case isFalse h =>
    rw [List.getElem_append_right (by simpa using h)]
    simp [Nat.add_sub_cancel' (Nat.not_lt.1 h)]

/-- CAP after `k` trailing bytes: a Capture stores each, a Discard none. -/
def capAfter (s : State) (k : Nat) : Vector Byte 4 :=
  if trailingCaptures (formTrailing s.seq.form) then fillWith (misoAt · s) s.cmd.cap k else s.cmd.cap

/-- `s` after `k` trailing bytes. -/
def trailed (k : Nat) (s : State) : State :=
  { xfers (List.replicate k 0xFF) s with cmd := { s.cmd with cap := capAfter s k } }

theorem trailed_zero (s : State) : trailed 0 s = s := by
  have hcap : capAfter s 0 = s.cmd.cap := ite_self _
  unfold trailed
  rw [hcap]
  rfl

@[simp] theorem trailed_seq (k : Nat) (s : State) : (trailed k s).seq = s.seq := xfers_seq _ s
@[simp] theorem trailed_bus (k : Nat) (s : State) : (trailed k s).bus = s.bus := xfers_bus _ s
@[simp] theorem trailed_csd (k : Nat) (s : State) : (trailed k s).csd = s.csd := xfers_csd _ s
@[simp] theorem trailed_mem (k : Nat) (s : State) : (trailed k s).mem = s.mem := xfers_mem _ s
@[simp] theorem trailed_cmd (k : Nat) (s : State) : (trailed k s).cmd = { s.cmd with cap := capAfter s k } := rfl
@[simp] theorem trailed_drawn (k : Nat) (s : State) : (trailed k s).env.drawn = s.env.drawn + k := by
  simp [trailed]
@[simp] theorem alone_trailed (k : Nat) (s : State) : Alone (trailed k s) ↔ Alone s :=
  alone_xfers (List.replicate k 0xFF) s

theorem misoAt_trailed (j k : Nat) (s : State) : misoAt j (trailed k s) = misoAt (k + j) s := by
  have h := misoAt_xfers (List.replicate k 0xFF) s j
  rwa [List.length_replicate] at h

theorem trace_trailed (k : Nat) (s : State) :
    (trailed k s).trace = s.trace ++ exchanges s.bus.csAsserted 0 (List.replicate k 0xFF) s :=
  trace_xfers (List.replicate k 0xFF) s

/-- Trailing byte `k`, as one step of R174's loop. -/
theorem captureByte_trailed (k : Nat) (s : State) :
    captureByte (misoAt k s) (xfer 0xFF (pass .cmdTrail k (trailed k s))) = pass .cmdTrail k (trailed (k + 1) s) := by
  have hx : xfer 0xFF (pass .cmdTrail k (trailed k s)) =
      pass .cmdTrail k { xfers (List.replicate (k + 1) 0xFF) s with cmd := { s.cmd with cap := capAfter s k } } := by
    rw [xfers_replicate_succ]
    rfl
  rw [hx]
  unfold captureByte trailed
  cases h : trailingCaptures (formTrailing s.seq.form) <;> simp [h, capAfter, fillWith, pass]

theorem step_cmdTrail {k : Nat} {s : State} (ha : Alone s) (hcount : trailingCount (formTrailing s.seq.form) = 4) :
    step (pass .cmdTrail k (trailed k s)) = .next (if k + 1 < 4 then pass .cmdTrail (k + 1) (trailed (k + 1) s)
      else afterTrailing (pass .cmdTrail k (trailed (k + 1) s))) := by
  have hmiso : nextMiso (pass .cmdTrail k (trailed k s)) = misoAt k s := by
    rw [nextMiso_pass, ← misoAt_zero, misoAt_trailed, Nat.add_zero]
  rw [step_pass (by simpa using ha) rfl]
  simp only [primitive, pass_seq, stepCmdTrail, hmiso, captureByte_trailed, again_pass, trailed_seq, hcount]

theorem run_cmdTrail {s : State} (ha : Alone s) (hcount : trailingCount (formTrailing s.seq.form) = 4) :
    runSteps 4 (pass .cmdTrail 0 s) = .next (afterTrailing (pass .cmdTrail 3 (trailed 4 s))) := by
  have hloop := run_loop .cmdTrail (trailed · s) 1 (n := 3) fun k hk =>
    runSteps_one_of_next ((step_cmdTrail ha hcount).trans (congrArg _ (if_pos (Nat.succ_lt_succ hk))))
  rw [trailed_zero] at hloop
  exact runSteps_trans_step hloop (step_cmdTrail ha hcount)

theorem capAfter_toList (s : State) {n : Nat} (hn : n ≤ 4) : (capAfter s n).toList =
    if trailingCaptures (formTrailing s.seq.form) then
      (List.range n).map (fun k => misoAt k s) ++ s.cmd.cap.toList.drop n
    else s.cmd.cap.toList := by
  unfold capAfter
  split
  · exact fillWith_toList _ _ hn
  · rfl

/-- The trailing bytes after a valid R1 `b`, if the form has any. -/
theorem run_afterR1 {s : State} (ha : Alone s) (q : Pos) (k : Nat) (b : Byte) :
    ∃ p j, runSteps (trailingCount (formTrailing s.seq.form)) (afterR1 b (pass q k s)) =
      .next (afterTrailing (pass p j (trailed (trailingCount (formTrailing s.seq.form)) (holdR1 b s)))) := by
  have hfour : trailingCount (formTrailing s.seq.form) = 4 ∨ trailingCount (formTrailing s.seq.form) = 0 := by
    cases formKind s.seq.form with
    | trails hcount => exact .inl hcount
    | releases hcount | holds hcount => exact .inr hcount
  obtain hcount | hcount := hfour <;> rw [hcount]
  · refine ⟨.cmdTrail, 3, ?_⟩
    rw [afterR1_of_trailing (s := pass q k s) b (by rw [pass_seq, hcount]; decide)]
    exact run_cmdTrail (s := holdR1 b s) ha hcount
  · rw [trailed_zero]
    exact ⟨q, k, congrArg _ (afterR1_of_none (s := pass q k s) b hcount)⟩

/-! ### The release (R172) -/

/-- The state in which SendCommand's last assignments are made. -/
def returnState (s : State) : State :=
  if formRelease s.seq.form then pass .cmdReleaseClock s.seq.k (xfer 0xFF (csDeassert s)) else s

theorem run_afterTrailing {s : State} (ha : Alone s) :
    runSteps (if formRelease s.seq.form then 2 else 0) (afterTrailing s) =
      .next (endCommand (some s.seq.r1) (returnState s)) := by
  unfold returnState
  cases hrel : formRelease s.seq.form with
  | true =>
    have hclock : step (pass .cmdRelease s.seq.k s) = .next (pass .cmdReleaseClock s.seq.k (csDeassert s)) :=
      step_pass ha rfl
    have hreturn : step (pass .cmdReleaseClock s.seq.k (csDeassert s)) =
        .next (endCommand (some s.seq.r1) (pass .cmdReleaseClock s.seq.k (xfer 0xFF (csDeassert s)))) :=
      step_pass (s := csDeassert s) ha rfl
    rw [afterTrailing_of_release hrel]
    exact runSteps_step hclock (runSteps_one_of_next hreturn)
  | false => exact congrArg _ (afterTrailing_of_hold hrel)

/-- The events of the release. -/
theorem trace_returnState (s : State) (hcs : s.bus.csAsserted = true) : (returnState s).trace =
    s.trace ++ if formRelease s.seq.form then .cs false :: exchanges false 0 [0xFF] s else [] := by
  unfold returnState
  split
  · rw [pass_trace, trace_xfer, trace_csDeassert, hcs, misoAt_csDeassert]
    simp [exchanges_cons]
  · simp

theorem returnState_kept (s : State) : (returnState s).cmd = s.cmd ∧ (returnState s).csd = s.csd ∧
    (returnState s).mem = s.mem ∧ (returnState s).seq.form = s.seq.form ∧
    (returnState s).env.drawn = s.env.drawn + (if formRelease s.seq.form then 1 else 0) ∧
    (s.bus.csAsserted = true → (returnState s).bus.csAsserted = !formRelease s.seq.form) := by
  unfold returnState
  cases formRelease s.seq.form <;> simp

/-! ### The whole command -/

/-- From the call: SendCommand at its R1 poll, after `skip` fillers. -/
theorem run_call {i : Instr} {s : State} (ha : Alone s) (hm : meets i s) (hf : formOfInstr i = some s.seq.form) :
    runSteps (6 + skipCount s + 1) s = .next (pass .cmdPoll 0
      (xfers (s.cmd.frame.toList ++ List.replicate (skipCount s) 0xFF) (csAssert s))) :=
  runSteps_step (step_cmdIssue ha hm hf) (run_toPoll (s := csAssert s) ha)

/-- The card's coming bytes after the first `6 + s` exchanges. -/
theorem misoAt_polled (s : State) (k : Nat) :
    misoAt k (xfers (s.cmd.frame.toList ++ List.replicate (skipCount s) 0xFF) (csAssert s)) =
      misoAt (6 + skipCount s + k) s := by
  rw [misoAt_xfers, misoAt_csAssert]
  simp

/-- A row of exchanges after a row: one row. -/
theorem trace_xfers_append (ms ns : List Byte) (s : State) :
    (xfers ms s).trace ++ exchanges s.bus.csAsserted 0 ns (xfers ms s) =
      s.trace ++ exchanges s.bus.csAsserted 0 (ms ++ ns) s := by
  rw [trace_xfers, exchanges_xfers, exchanges_append]
  simp

/-- SendCommand when its last exchange before the return, but for the release's, is made: `n` trailing bytes after a valid R1
on poll `misses + 1`. -/
structure Answered (s : State) (misses n : Nat) (u : State) : Prop where
  alone : Alone u
  form : u.seq.form = s.seq.form
  r1 : u.seq.r1 = misoAt (6 + skipCount s + misses) s
  cs : u.bus.csAsserted = true
  trace : u.trace = s.trace ++ (if s.bus.csAsserted then [] else [.cs true]) ++
    exchanges true 0 (s.cmd.frame.toList ++ List.replicate (skipCount s + (misses + 1) + n) 0xFF) s
  miso : ∀ k, misoAt k u = misoAt (6 + skipCount s + (misses + 1) + n + k) s
  drawn : u.env.drawn = s.env.drawn + (6 + skipCount s + (misses + 1) + n)
  cap : u.cmd.cap.toList = if trailingCaptures (formTrailing s.seq.form) then
      (List.range n).map (fun k => misoAt (6 + skipCount s + (misses + 1) + k) s) ++ s.cmd.cap.toList.drop n
    else s.cmd.cap.toList
  mem : u.mem = s.mem
  csd : u.csd = s.csd

theorem answered_trailed (p : Pos) (j : Nat) {s : State} (ha : Alone s) (misses : Nat) {n : Nat} (hn : n ≤ 4) :
    Answered s misses n (pass p j (trailed n (holdR1 (misoAt (6 + skipCount s + misses) s)
      (xfers (s.cmd.frame.toList ++ List.replicate (skipCount s + (misses + 1)) 0xFF) (csAssert s))))) where
  alone := by simpa using ha
  form := by simp
  r1 := by simp
  cs := by simp
  trace := by
    rw [pass_trace, trace_trailed, holdR1_bus, xfers_bus, holdR1_trace, exchanges_congr (holdR1_env _ _),
      trace_xfers_append, trace_csAssert, csAssert_bus, exchanges_congr (csAssert_env s), List.append_assoc _ _ (.replicate n _),
      List.replicate_append_replicate]
  miso k := by
    rw [misoAt_pass, misoAt_trailed, misoAt_holdR1, misoAt_xfers, misoAt_csAssert]
    congr 1
    simp
    omega
  drawn := by
    simp
    omega
  cap := by
    rw [pass_cmd, trailed_cmd, capAfter_toList _ hn]
    simp [misoAt_xfers, misoAt_csAssert, Nat.add_assoc]
  mem := by simp
  csd := by simp

/-- Settles O26, by the run of a command from its call to its return. -/
theorem sendCommandWithAnswer : Obligations.SendCommandWithAnswer := by
  unfold Obligations.SendCommandWithAnswer
  refine ⟨by decide, fun s => ?_, fun n => ⟨rfl, rfl, rfl, rfl⟩, ?_⟩
  · refine if_congr ?_ rfl rfl
    cases s.seq.form <;> simp [formSkipFirst]
  intro s i misses n hv hh hm hf hbudget hn hmiss hvalid
  have ha : Alone s := ⟨hv, hh⟩
  have hcall := run_call ha hm hf
  have hpoll := run_cmdPoll_valid
    (s := xfers (s.cmd.frame.toList ++ List.replicate (skipCount s) 0xFF) (csAssert s)) (by simpa using ha)
    (by simpa using hbudget) (fun k hk => by rw [misoAt_polled]; exact hmiss k hk)
    (by rw [misoAt_polled]; exact hvalid)
  rw [misoAt_polled, ← xfers_append, List.append_assoc, List.replicate_append_replicate] at hpoll
  obtain ⟨p, j, htrail⟩ := run_afterR1
    (s := xfers (s.cmd.frame.toList ++ List.replicate (skipCount s + (misses + 1)) 0xFF) (csAssert s))
    (by simpa using ha) .cmdPoll misses (misoAt (6 + skipCount s + misses) s)
  rw [xfers_seq, csAssert_seq, ← hn] at htrail
  have hans := answered_trailed p j ha misses (n := n) (by
    cases formKind s.seq.form with
    | trails hcount | releases hcount | holds hcount => omega)
  generalize pass p j (trailed n _) = u at htrail hans
  have hend := run_afterTrailing hans.alone
  obtain ⟨hcmd, hcsd, hmem, hform, hdrawn, hcs⟩ := returnState_kept u
  have hw := returnWrites_endCommand (some u.seq.r1) (returnState u)
  have hcw := controlWrites_endCommand (some u.seq.r1) (returnState u)
  rw [hans.form] at hend hform hdrawn hcs
  refine ⟨endCommand (some u.seq.r1) (returnState u), ?_, ?_, ?_, ?_, ?_, ?_, ?_, ?_, ?_, ?_, ?_⟩
  · have hrun := runSteps_trans (runSteps_trans (runSteps_trans hcall hpoll) htrail) hend
    rwa [show 1 + 6 + skipCount s + (misses + 1) + n = 6 + skipCount s + 1 + (misses + 1) + n by omega]
  · rw [hcw.trace, trace_returnState u hans.cs, hans.form, hans.trace]
    simp [exchanges_cons, hans.miso]
  · rw [hcw.env, hdrawn, hans.drawn, Nat.add_assoc]
  · rw [← hans.cap, ← hcmd]
    exact (congrArg (fun c : CmdRegs => c.cap.toList) hw.cmd :)
  · exact (congrArg CmdRegs.lastIdx hw.cmd).trans (congrArg formIndex hform)
  · exact (congrArg CmdRegs.lastR1 hw.cmd).trans hans.r1
  · exact congrArg CmdRegs.lastTo hw.cmd
  · exact congrArg CmdRegs.lastValid hw.cmd
  · rw [hcw.bus, hcs hans.cs]
  · rw [hcw.mem, hmem, hans.mem]
  · rw [hcw.csd, hcsd, hans.csd]

/-! ### Timeout (R173, R175) -/

theorem run_cmdTimeout {k : Nat} {s : State} (ha : Alone s) : runSteps 2 (pass .cmdTimeout k s) =
    .next (endCommand none (pass .cmdTimeoutClock k (xfer 0xFF (csDeassert s)))) :=
  runSteps_step (t := pass .cmdTimeoutClock k (csDeassert s)) (step_pass ha rfl)
    (runSteps_one_of_next (step_pass (s := csDeassert s) ha rfl))

/-- Settles O27, by the run of a command whose polls run out. -/
theorem sendCommandTimesOut : Obligations.SendCommandTimesOut := by
  unfold Obligations.SendCommandTimesOut
  intro s i n hv hh hm hf hn hmiss
  have ha : Alone s := ⟨hv, hh⟩
  have hpos : 0 < n := hn ▸ (budgets_pos hv).1
  have hcall := run_call ha hm hf
  have hpoll := run_cmdPoll_timeout
    (s := xfers (s.cmd.frame.toList ++ List.replicate (skipCount s) 0xFF) (csAssert s)) (by simpa using ha)
    (by simpa using hn) hpos (fun k hk => by rw [misoAt_polled]; exact hmiss k hk)
  rw [← xfers_append, List.append_assoc, List.replicate_append_replicate] at hpoll
  have hrun := runSteps_trans (runSteps_trans hcall hpoll) (run_cmdTimeout (by simpa using ha))
  rw [show 6 + skipCount s + 1 + n + 2 = 1 + 6 + skipCount s + n + 2 by omega] at hrun
  have hw := returnWrites_endCommand none (pass .cmdTimeoutClock (n - 1) (xfer 0xFF (csDeassert
    (xfers (s.cmd.frame.toList ++ List.replicate (skipCount s + n) 0xFF) (csAssert s)))))
  refine ⟨_, hrun, ?_, ?_, ?_, ?_, ?_, ?_, ?_, ?_, ?_, ?_⟩
  · rw [(controlWrites_endCommand _ _).trace, pass_trace, trace_xfer, trace_csDeassert, trace_xfers, trace_csAssert,
      exchanges_congr (csAssert_env s), misoAt_csDeassert, misoAt_xfers, misoAt_csAssert]
    simp [exchanges_cons, Nat.add_assoc]
  · rw [hw.control.env]
    simp
    omega
  iterate 5
    · rw [hw.cmd]
      simp [recorded]
  · rw [hw.control.bus]
    simp
  · rw [hw.control.mem]
    simp
  · rw [hw.control.csd]
    simp

end Sys2Proof.Proofs
end

section
/-! SUPPORT. The initialisation state machine (41_init_sequencer) and Abort: O29 to O37 and O40. -/

namespace Sys2Proof.Proofs
open Sys2Proof.Machine Sys2Proof.Laws

/-! ### Fail and Abort (R176, R220) -/

/-- The end of an attempt, with CS deasserted: the outcome depends on the attempt count alone (R210). -/
theorem hasFailed_attemptFailed {s u : State} (hop : u.op = s.op) (hcs : u.bus.csAsserted = false) :
    hasFailed s (attemptFailed u) := by
  by_cases h8 : u.op.attempt = Config.maxInitAttempts
  · rw [attemptFailed_last u h8, raise_of_released _ { u with initState := .fail } hcs]
    exact ⟨rfl, fun h => absurd (hop ▸ h8) h, fun _ => ⟨rfl, rfl⟩⟩
  · rw [attemptFailed_more u h8]
    exact ⟨rfl, fun _ => rfl, fun h => absurd (hop ▸ h) h8⟩

theorem hasFailed_initFail {s u : State} (hop : u.op = s.op) (hcs : u.bus.csAsserted = false) :
    hasFailed s (initFail u) := by
  rw [initFail_of_released u hcs]
  exact hasFailed_attemptFailed hop hcs

theorem attemptFailed_geom (s : State) : (attemptFailed s).geom = s.geom := by unfold attemptFailed; split <;> simp

theorem raise_cmd (kind : ErrCode) (s : State) : (raise kind s).cmd = s.cmd := by unfold raise; split <;> rfl

theorem attemptFailed_cmd (s : State) : (attemptFailed s).cmd = s.cmd := by
  unfold attemptFailed
  split
  · exact raise_cmd _ _
  · rfl

theorem initFail_cmd (s : State) : (initFail s).cmd = s.cmd := by
  unfold initFail
  split
  · rfl
  · exact attemptFailed_cmd s

theorem initFail_geom (s : State) : (initFail s).geom = s.geom := by
  unfold initFail
  split
  · rfl
  · exact attemptFailed_geom s

/-- Abort with CS asserted: the release and one exchange with CS deasserted (R176). -/
theorem run_abort {s : State} (ha : Alone s) (hpos : s.seq.pos = .abortRelease) :
    runSteps 2 s = .next (stepAbortClock (goto .abortClock (csDeassert s))) := by
  have hstep : step s = .next (goto .abortClock (csDeassert s)) := by
    rw [step_at ha hpos rfl, primitive, hpos]
  exact runSteps_step hstep (runSteps_one_of_next (step_at (s := goto _ (csDeassert s)) ha rfl rfl))

/-- TRACE grows by CS(0) and one exchange with CS deasserted. -/
theorem traceRev_release {s : State} (h : s.bus.csAsserted = true) (m : Byte) :
    (xfer m (csDeassert s)).traceRev = .x false m (nextMiso s) :: .cs false :: s.traceRev := by
  simp [csDeassert, nextMiso, h]

/-- The state after Abort's release and trailing byte. -/
def aborted (s : State) : State := xfer 0xFF (goto .abortClock (csDeassert s))

/-- Abort in a READ or WRITE: the operation completes with the raised code (R352). -/
theorem run_abort_transfer {s : State} (ha : Alone s) (hpos : s.seq.pos = .abortRelease) (hop : s.op.latOp ≠ 0x1) :
    runSteps 3 s = .next (complete s.seq.code (goto .finish (aborted s))) := by
  have hclock : stepAbortClock (goto .abortClock (csDeassert s)) = goto .finish (aborted s) := if_neg hop
  have hrun := run_abort ha hpos
  rw [hclock] at hrun
  exact runSteps_trans_step hrun (step_at (s := goto .finish (aborted s)) ha rfl rfl)

/-- Abort in INIT: the attempt fails (R220). -/
theorem run_abort_init {s : State} (ha : Alone s) (hpos : s.seq.pos = .abortRelease) (hop : s.op.latOp = 0x1) :
    runSteps 2 s = .next (attemptFailed (aborted s)) :=
  (run_abort ha hpos).trans (congrArg _ (if_pos hop))

/-- Settles O29: after the release the operation code alone says what Abort ends. -/
theorem abortReleasesAndCompletes : Obligations.AbortReleasesAndCompletes := by
  unfold Obligations.AbortReleasesAndCompletes
  intro s hv hh hpos hcs
  refine ⟨fun hop => ?_, fun hop => ?_⟩
  · exact ⟨_, run_abort_transfer ⟨hv, hh⟩ hpos hop, ⟨rfl, rfl, rfl, rfl⟩, rfl, traceRev_release hcs 0xFF, rfl, rfl, rfl,
      rfl, rfl, rfl, rfl, rfl⟩
  · have hw := returnWrites_attemptFailed (aborted s)
    exact ⟨_, run_abort_init ⟨hv, hh⟩ hpos hop, hasFailed_attemptFailed rfl rfl, hw.op, hw.control.bus,
      hw.control.traceRev.trans (traceRev_release hcs 0xFF), hw.control.mem, attemptFailed_geom _, attemptFailed_cmd _,
      hw.control.csd, hw.control.host, hw.control.cfg⟩

/-! ### INIT's start and the retry (R211, R212) -/

theorem beginAttempt_frame (s : State) : (beginAttempt s).cmd.frame.toList = [0x40, 0, 0, 0, 0, 0x95] := rfl

theorem controlWrites_beginAttempt (s : State) : ControlWrites s (beginAttempt s) := rfl

/-- The power-up bytes and the head of the loop. -/
theorem run_powerup {s : State} (ha : Alone s) {n : Nat} (hn : n = s.cfg.powerupDummyBytes.toNat) (hpos : 0 < n) :
    runSteps n (pass .powerup 0 s) =
      .next (beginAttempt (pass .powerup (n - 1) (xfers (List.replicate n 0xFF) s))) := by
  obtain ⟨n, rfl⟩ := Nat.exists_eq_succ_of_ne_zero hpos.ne'
  have hstep : ∀ k, step (pass .powerup k (xfers (List.replicate k 0xFF) s)) =
      .next (if k + 1 < n + 1 then pass .powerup (k + 1) (xfers (List.replicate (k + 1) 0xFF) s)
        else beginAttempt (pass .powerup k (xfers (List.replicate (k + 1) 0xFF) s))) := fun k => by
    rw [step_pass (by simpa using ha) rfl]
    simp only [primitive, pass_seq, stepPowerup, pass_cfg, xfers_cfg, ← hn, xfer_pass, again_pass, xfers_replicate_succ]
  have hloop := run_loop .powerup (fun k => xfers (List.replicate k 0xFF) s) 1 (n := n) fun k hk => by
    have h := hstep k
    rw [if_pos (by omega)] at h
    exact runSteps_one_of_next h
  have hlast := hstep n
  rw [if_neg (by omega)] at hlast
  rw [Nat.one_mul] at hloop
  exact runSteps_trans_step hloop hlast

/-- INIT's start (R211): SetClock, CsDeassert, the power-up bytes and the head of the loop. -/
theorem run_initStart {s : State} (ha : Alone s) (hpos : s.seq.pos = .initClock) :
    ∃ p k, runSteps (2 + s.cfg.powerupDummyBytes.toNat) s = .next (beginAttempt (pass p k
      (xfers (List.replicate s.cfg.powerupDummyBytes.toNat 0xFF) (csDeassert (setClock s.cfg.initBaud s))))) := by
  have hclock : step s = .next (pass .initDeassert s.seq.k (setClock s.cfg.initBaud s)) := by
    rw [step_at ha hpos rfl, primitive, hpos]
    rfl
  have hdeassert : step (pass .initDeassert s.seq.k (setClock s.cfg.initBaud s)) =
      .next (stepInitDeassert (pass .initDeassert s.seq.k (setClock s.cfg.initBaud s))) :=
    step_pass (s := setClock _ s) ha rfl
  have htwo := runSteps_step hclock (runSteps_one_of_next hdeassert)
  by_cases hn : 0 < s.cfg.powerupDummyBytes.toNat
  · have hpower : stepInitDeassert (pass .initDeassert s.seq.k (setClock s.cfg.initBaud s)) =
        pass .powerup 0 (csDeassert (setClock s.cfg.initBaud s)) := if_pos hn
    rw [hpower] at htwo
    exact ⟨_, _, runSteps_trans htwo (run_powerup (s := csDeassert (setClock _ s)) ha rfl hn)⟩
  · have hnone : stepInitDeassert (pass .initDeassert s.seq.k (setClock s.cfg.initBaud s)) =
        beginAttempt (csDeassert (pass .initDeassert s.seq.k (setClock s.cfg.initBaud s))) := if_neg hn
    rw [hnone] at htwo
    rw [Nat.eq_zero_of_not_pos hn]
    exact ⟨_, _, htwo⟩

/-- Settles O30, by the run of INIT's start. -/
theorem powerUpThenCmd0 : Obligations.PowerUpThenCmd0 := by
  unfold Obligations.PowerUpThenCmd0
  intro s hv hh hpos hcs
  obtain ⟨p, k, hrun⟩ := run_initStart ⟨hv, hh⟩ hpos
  refine ⟨_, hrun, rfl, rfl, beginAttempt_frame _, ?_, rfl, ?_, ?_, ?_⟩
  · simp [beginAttempt]
  · simp [beginAttempt]
  · simp [beginAttempt]
  · rw [(controlWrites_beginAttempt _).trace, pass_trace, trace_xfers, trace_csDeassert, trace_setClock]
    rw [exchanges_congr (s := s) (t := csDeassert (setClock s.cfg.initBaud s)) rfl]
    simp [hcs]

/-- Settles O32, by the three primitives of R212. -/
theorem betweenAttempts : Obligations.BetweenAttempts := by
  unfold Obligations.BetweenAttempts
  intro s hv hh hpos hcs
  have ha : Alone s := ⟨hv, hh⟩
  have hstep : step s = .next (goto .retryClock s) := by
    rw [step_at ha hpos rfl, primitive, hpos]
    simp only [csDeassert_of_released hcs]
  have hclock : step (goto .retryClock s) = .next (goto .retrySleep (xfer 0xFF (goto .retryClock s))) :=
    step_at (s := goto _ s) ha rfl rfl
  have hsleep : step (goto .retrySleep (xfer 0xFF (goto .retryClock s))) =
      .next (beginAttempt (sleep s.cfg.retrySleepMs (goto .retrySleep (xfer 0xFF (goto .retryClock s))))) :=
    step_at (s := goto _ (xfer 0xFF (goto _ s))) ha rfl rfl
  refine ⟨_, runSteps_step hstep (runSteps_step hclock (runSteps_one_of_next hsleep)), rfl, rfl, beginAttempt_frame _,
    rfl, rfl, rfl, ?_⟩
  rw [(controlWrites_beginAttempt _).traceRev]
  unfold sleep
  split <;> simp [hcs, nextMiso]

/-! ### The states between commands (R214, R219) -/

/-- Settles O33, by the primitive of each of the two positions. -/
theorem momentStatesPass : Obligations.MomentStatesPass := by
  unfold Obligations.MomentStatesPass
  intro s hv hh
  refine ⟨fun hpos => ?_, fun hpos => ?_⟩ <;> rw [step_at ⟨hv, hh⟩ hpos rfl, primitive, hpos] <;>
    exact ⟨_, rfl, ⟨rfl, rfl, rfl, rfl⟩, rfl, rfl, rfl, rfl⟩

/-! ### The returns of INIT's commands -/

/-- The state that the caller of SendCommand reads: the last exchange and assignments are made (R172). -/
def returned (r : Option Byte) (s : State) : State := recorded r (xfer 0xFF s)

theorem step_of_returns {r : Option Byte} {s : State} (ha : Alone s) (h : returns r s) :
    step s = .next (commandReturn r (returned r s)) := by
  obtain ⟨hpos, rfl⟩ | ⟨hpos, rfl⟩ := h <;> rw [step_at ha hpos rfl, primitive, hpos] <;> rfl

theorem hasFailed_returned {r : Option Byte} {s : State} (hcs : s.bus.csAsserted = false) :
    hasFailed s (initFail (returned r s)) := hasFailed_initFail (u := returned r s) rfl hcs

/-- Settles O31: the only R1 that goes on is 0x01. -/
theorem cmd0Outcome : Obligations.Cmd0Outcome := by
  unfold Obligations.Cmd0Outcome
  intro s r hv hh hr hform hcs
  refine ⟨_, step_of_returns ⟨hv, hh⟩ hr, (returnWrites_commandReturn r _).op, ?_⟩
  have hret : commandReturn r (returned r s) = if r = some 0x01 then
      goto .cmd0Idle { returned r s with initState := .cmd0Idle } else initFail (returned r s) := by
    unfold commandReturn
    rw [show (returned r s).seq.form = .cmd0 from hform]
  rw [hret]
  by_cases h1 : r = some 0x01
  · rw [if_pos h1]
    exact ⟨fun _ => ⟨rfl, rfl⟩, fun h => absurd h1 h, fun h => absurd h1 h, fun h => absurd h1 h⟩
  · rw [if_neg h1]
    obtain ⟨hfail, hmore, hlast⟩ := hasFailed_returned (r := r) hcs
    exact ⟨fun h => absurd h h1, fun _ => hfail, fun _ => hlast, fun _ => hmore⟩

/-- Settles O34: 0x01 and 0x05 start the two loops, each from its first iteration. -/
theorem versionProbeBranches : Obligations.VersionProbeBranches := by
  unfold Obligations.VersionProbeBranches
  intro s r hv hh hr hform hcs
  refine ⟨_, step_of_returns ⟨hv, hh⟩ hr, ?_⟩
  have hret : commandReturn r (returned r s) = if r = some 0x01 then enterV2Init (returned r s)
      else if r = some 0x05 then enterV1Init (returned r s) else initFail (returned r s) := by
    unfold commandReturn
    rw [show (returned r s).seq.form = .cmd8 from hform]
  rw [hret]
  by_cases h1 : r = some 0x01
  · subst h1
    rw [if_pos rfl]
    exact ⟨fun _ => ⟨rfl, rfl, rfl, rfl, rfl⟩, fun h => absurd h (by decide), fun h => absurd rfl h⟩
  by_cases h5 : r = some 0x05
  · subst h5
    rw [if_neg (by decide), if_pos rfl]
    exact ⟨fun h => absurd h (by decide), fun _ => ⟨rfl, rfl, rfl, rfl, rfl⟩, fun _ h => absurd rfl h⟩
  · rw [if_neg h1, if_neg h5]
    exact ⟨fun h => absurd h h1, fun h => absurd h h5, fun _ _ => hasFailed_returned hcs⟩

/-! ### The ACMD41 loop (R216, R217) -/

/-- The next iteration, with budget left: the first command of the branch's loop. -/
theorem nextIteration_more {s : State} (h : s.seq.iter + 1 < s.cfg.acmd41Budget.toNat) :
    nextIteration s = startCommand (if s.seq.form = .acmd41V1 then .cmd55 else .cmd58Loop) 0
      { s with seq := { s.seq with iter := s.seq.iter + 1 } } := by
  unfold nextIteration
  rw [if_pos h]
  dsimp only
  split <;> rfl

theorem nextIteration_spent {s : State} (h : s.cfg.acmd41Budget.toNat ≤ s.seq.iter + 1) :
    nextIteration s = initFail s := if_neg (by omega)

theorem nextIteration_geom (s : State) : (nextIteration s).geom = s.geom := by
  unfold nextIteration v1Iteration v2Iteration
  dsimp only
  repeat' split
  · rfl
  · rfl
  · exact initFail_geom s

theorem traceRev_sleep (ms : Word) (s : State) :
    (sleep ms s).traceRev = (if ms = 0 then [] else [.sleep ms]) ++ s.traceRev := by
  unfold sleep
  split <;> rfl

/-- An unsuccessful ACMD41: the Sleep, then the next iteration or Fail. -/
theorem run_acmd41_again {s : State} {r : Option Byte} (ha : Alone s) (hr : returns r s)
    (hform : s.seq.form = .acmd41V1 ∨ s.seq.form = .acmd41V2) (hne : r ≠ some 0x00) :
    runSteps 2 s = .next (nextIteration (sleep s.cfg.acmd41IntervalMs (goto .acmdSleep (returned r s)))) := by
  have hret : commandReturn r (returned r s) = goto .acmdSleep (returned r s) := by
    unfold commandReturn
    obtain hf | hf := hform <;> rw [show (returned r s).seq.form = _ from hf] <;> exact if_neg hne
  have hstep := step_of_returns ha hr
  rw [hret] at hstep
  exact runSteps_step hstep (runSteps_one_of_next (step_at (s := goto _ (returned r s)) ha rfl rfl))

/-- Settles O35, by the form that returns. -/
theorem acmd41LoopStep : Obligations.Acmd41LoopStep := by
  unfold Obligations.Acmd41LoopStep
  intro s r hv hh hr hcs
  have ha : Alone s := ⟨hv, hh⟩
  have hstep := step_of_returns ha hr
  have returnsAt : ∀ f, s.seq.form = f → (returned r s).seq.form = f := fun _ h => h
  refine ⟨fun hf => ?_, fun hf hv1 => ?_, fun hf hv2 => ?_, fun h0 hf => ?_, fun h0 hf => ?_, fun hf hne => ?_⟩
  · refine ⟨_, hstep, ?_⟩
    unfold commandReturn
    rw [returnsAt _ hf]
    exact ⟨rfl, rfl, rfl, rfl, rfl, rfl⟩
  · refine ⟨_, hstep, ?_⟩
    unfold commandReturn
    rw [returnsAt _ hf, show (returned r s).initState = .v1Init from hv1]
    exact ⟨rfl, rfl, rfl, rfl, rfl, rfl⟩
  · refine ⟨_, hstep, ?_⟩
    unfold commandReturn
    rw [returnsAt _ hf, show (returned r s).initState = .v2Init from hv2]
    exact ⟨rfl, rfl, rfl, rfl, rfl, rfl⟩
  · subst h0
    refine ⟨_, hstep, ?_⟩
    unfold commandReturn
    rw [returnsAt _ hf]
    exact ⟨rfl, rfl, rfl⟩
  · subst h0
    refine ⟨_, hstep, ?_⟩
    unfold commandReturn
    rw [returnsAt _ hf]
    exact ⟨rfl, rfl, rfl, rfl, rfl⟩
  · refine ⟨_, run_acmd41_again ha hr hf hne, fun hiter => ?_, fun hiter => ?_, ?_, ?_⟩
    · rw [nextIteration_more (s := sleep s.cfg.acmd41IntervalMs (goto .acmdSleep (returned r s))) hiter]
      refine ⟨rfl, rfl, rfl, ?_, rfl⟩
      obtain hf | hf := hf <;> simp [returned, hf] <;> rfl
    · rw [nextIteration_spent (s := sleep s.cfg.acmd41IntervalMs (goto .acmdSleep (returned r s))) hiter]
      exact hasFailed_initFail rfl hcs
    · exact nextIteration_geom _
    · rw [(controlWrites_nextIteration _).traceRev, traceRev_sleep]
      simp [returned, hcs]

/-! ### The geometry and Ready (R218, R234 to R236) -/

/-- R127: the mask 0x40 is bit 6. -/
theorem ccsBit_eq (cap : Vector Byte 4) : ccsBit cap = (cap[0]).getLsbD 6 := by
  unfold ccsBit
  generalize cap[0] = b
  revert b
  decide

/-- Settles O36: with 0x00 the CCS bit of CAP, which the return keeps, chooses the unit. -/
theorem ccsChoosesAddressUnit : Obligations.CcsChoosesAddressUnit := by
  unfold Obligations.CcsChoosesAddressUnit
  intro s r hv hh hr hform hcs
  refine ⟨_, step_of_returns ⟨hv, hh⟩ hr, ?_⟩
  have hret : commandReturn r (returned r s) = if r = some 0x00 then
      voltageReached (if (s.cmd.cap[0]).getLsbD 6 then .block else .byte) (returned r s)
      else initFail (returned r s) := by
    unfold commandReturn
    rw [show (returned r s).seq.form = .cmd58Final from hform, ← ccsBit_eq]
    rfl
  rw [hret]
  by_cases h0 : r = some 0x00
  · rw [if_pos h0]
    exact ⟨fun _ => ⟨rfl, rfl, rfl⟩, fun h => absurd h0 h⟩
  · rw [if_neg h0]
    exact ⟨fun h => absurd h h0, fun _ => ⟨hasFailed_returned hcs, initFail_geom _⟩⟩

/-- Settles O37, by the three steps from CMD16's R1 to the end of INIT. -/
theorem blockLenSetReachesReady : Obligations.BlockLenSetReachesReady := by
  unfold Obligations.BlockLenSetReachesReady
  intro s r hv hh hr hform hcs
  have ha : Alone s := ⟨hv, hh⟩
  have hret : commandReturn r (returned r s) =
      if r = some 0x00 then goto .readyClock (returned r s) else initFail (returned r s) := by
    unfold commandReturn
    rw [show (returned r s).seq.form = .cmd16 from hform]
  have hstep := step_of_returns ha hr
  rw [hret] at hstep
  refine ⟨fun h0 => ?_, fun h0 => ?_⟩
  · rw [if_pos h0] at hstep
    have hclock : step (goto .readyClock (returned r s)) = .next (stepReadyClock (goto .readyClock (returned r s))) :=
      step_at (s := goto _ (returned r s)) ha rfl rfl
    have hdone : step (stepReadyClock (goto .readyClock (returned r s))) =
        .next (stepReadyDone (stepReadyClock (goto .readyClock (returned r s)))) :=
      step_at (s := stepReadyClock _) ha rfl rfl
    have hbus : (stepReadyClock (goto .readyClock (returned r s))).bus =
        { csAsserted := false, clockHz := some s.cfg.dataBaud } := by
      simp [stepReadyClock, returned, hcs]
    have htrace : (stepReadyClock (goto .readyClock (returned r s))).traceRev =
        .clk s.cfg.dataBaud :: .x false 0xFF (nextMiso s) :: s.traceRev := by
      simp [stepReadyClock, returned, hcs]
    exact ⟨_, runSteps_step hstep (runSteps_step hclock (runSteps_one_of_next hdone)), ⟨rfl, rfl, rfl, rfl⟩, rfl, rfl,
      hbus, htrace, _, _, runSteps_one_of_next hstep, rfl, rfl, rfl,
      runSteps_step hstep (runSteps_one_of_next hclock), rfl, rfl, rfl, rfl⟩
  · rw [if_neg h0] at hstep
    exact ⟨_, hstep, hasFailed_returned hcs, initFail_geom _⟩

/-- R235: the version is the byte's two most significant bits. -/
theorem csdVersion_eq_one (csd : Vector Byte 16) : csdVersion csd = 0b01 ↔ csd[0].toNat / 64 = 1 := by
  unfold csdVersion
  generalize csd[0] = b
  revert b
  decide

/-- Settles O40: the CSD block's last step parses the geometry by the version and calls CMD16. -/
theorem csdBlockIsParsed : Obligations.CsdBlockIsParsed := by
  unfold Obligations.CsdBlockIsParsed
  intro s hv hh hpos hform
  have hstep : step s = .next (csdDone (xfer 0xFF s)) := by
    rw [step_at ⟨hv, hh⟩ hpos rfl, primitive, hpos]
    exact congrArg _ (if_pos hform)
  have htrace : s.trace ++ exchanges s.bus.csAsserted 0 [0xFF] s = (xfer 0xFF s).trace := by
    rw [trace_xfer]
    rfl
  refine ⟨_, hstep, ?_⟩
  rw [htrace]
  unfold csdDone parseGeometry
  by_cases hversion : csdVersion (xfer 0xFF s).csd = 0b01
  · rw [if_pos hversion]
    exact ⟨rfl, rfl, rfl, rfl, rfl, rfl, rfl, rfl, rfl, fun _ => rfl,
      fun h => absurd ((csdVersion_eq_one _).1 hversion) h⟩
  · rw [if_neg hversion]
    exact ⟨rfl, rfl, rfl, rfl, rfl, rfl, rfl, rfl, rfl, fun h =>
      absurd ((csdVersion_eq_one _).2 h) hversion, fun _ => rfl⟩

end Sys2Proof.Proofs
end

section
/-! SUPPORT. Data transfer (42_data_transfer), what needs no loop: O41, O42, O44 to O47 and O52. -/

namespace Sys2Proof.Proofs
open Sys2Proof.Machine Sys2Proof.Laws

/-! ### Addresses (R93, R270, R271) -/

/-- Settles O41: u32 arithmetic is arithmetic mod 2^32. -/
theorem protocolAddressWraps : Obligations.ProtocolAddressWraps := by
  unfold Obligations.ProtocolAddressWraps
  refine fun s => ⟨?_, rfl, fun i => ?_, rfl⟩
  · rw [protocolAddress_eq_ite]
    split
    · exact BitVec.toNat_mul _ _
    · rw [Nat.mul_one, Nat.mod_eq_of_lt s.op.latBlk.isLt]
  · rw [bufferAddress, BitVec.toNat_add, BitVec.toNat_ofNat, Nat.add_mod_mod]

/-- Settles O52: with the access refused, neither MemRead nor MemWrite has a step. -/
theorem refusedMemoryStopsTheFramer : Obligations.RefusedMemoryStopsTheFramer := by
  unfold Obligations.RefusedMemoryStopsTheFramer
  intro s hv hh hpos hbad
  have hrefused : ¬memAdmits (blockByteAddress s) s = true := by simp [hbad]
  obtain hpos | hpos := hpos <;> rw [step_at ⟨hv, hh⟩ hpos rfl, primitive, hpos] <;> exact if_neg hrefused

/-! ### The returns of the transfer commands (R272 to R275) -/

/-- Where a transfer command's R1 0x00 leads. -/
def transferNext (s : State) : State :=
  if s.seq.form = .cmd24 then startSend 0xFE s
  else if s.seq.form = .cmd25 then startSend 0xFC s
  else if s.seq.form = .cmd12 then finishWith .ok s
  else goto .recvAssert s

/-- The five transfer commands read their result alike. -/
theorem commandReturn_of_transfer {s : State} (hf : s.seq.form ∈ [Form.cmd17, .cmd18, .cmd12, .cmd24, .cmd25])
    (r : Option Byte) : commandReturn r s =
      if r = none then raise .busTimeout s else if r = some 0x00 then transferNext s else raise .illegalCommand s := by
  have hform : s.seq.form = .cmd17 ∨ s.seq.form = .cmd18 ∨ s.seq.form = .cmd12 ∨ s.seq.form = .cmd24 ∨
    s.seq.form = .cmd25 := by simpa using hf
  unfold commandReturn transferNext
  obtain hf | hf | hf | hf | hf := hform <;> rw [hf] <;> rfl

theorem commandReturn_of_cmd9 {s : State} (hf : s.seq.form = .cmd9) (r : Option Byte) :
    commandReturn r s = if r = some 0x00 then goto .recvAssert s else initFail s := by
  unfold commandReturn
  rw [hf]

/-- Settles O42: CMD9's failures fail the attempt, those of the others raise; CS being deasserted, Abort does nothing. -/
theorem transferCommandOutcome : Obligations.TransferCommandOutcome := by
  unfold Obligations.TransferCommandOutcome
  intro s r hv hh hr hf hcs
  have hw := returnWrites_commandReturn r (returned r s)
  refine ⟨_, step_of_returns ⟨hv, hh⟩ hr, hw.op, hw.control.bus, ?_, hw.control.csd, hw.control.mem, ?_⟩
  · by_cases h9 : s.seq.form = .cmd9
    · rw [commandReturn_of_cmd9 (s := returned r s) h9]
      split
      · rfl
      · exact initFail_geom _
    · have hop : formOp (returned r s).seq.form ≠ 0x1 := by
        change formOp s.seq.form ≠ 0x1
        generalize s.seq.form = f at hf h9
        revert f
        decide
      exact ((keepsTransferView_commandReturn r (returned r s)).2 hop).2
  · by_cases h9 : s.seq.form = .cmd9
    · rw [commandReturn_of_cmd9 (s := returned r s) h9]
      refine ⟨fun _ h0 => ?_, fun h => absurd h9 h, fun h => absurd h9 h, fun h0 => ?_⟩
      · rw [if_neg h0]
        exact hasFailed_returned hcs
      · rw [if_pos h0, h9]
        exact ⟨fun _ => rfl, nofun, nofun, nofun⟩
    · have hf' : s.seq.form ∈ [Form.cmd17, .cmd18, .cmd12, .cmd24, .cmd25] := by simpa [h9] using hf
      rw [commandReturn_of_transfer (s := returned r s) hf', raise_of_released _ (returned r s) hcs,
        raise_of_released _ (returned r s) hcs]
      refine ⟨fun h => absurd h h9, fun _ hn => ?_, fun _ hn h0 => ?_, fun h0 => ?_⟩
      · rw [if_pos hn]
        exact ⟨rfl, rfl⟩
      · rw [if_neg hn, if_neg h0]
        exact ⟨rfl, rfl⟩
      · subst h0
        rw [if_neg (by simp), if_pos rfl]
        have hform : s.seq.form = .cmd17 ∨ s.seq.form = .cmd18 ∨ s.seq.form = .cmd12 ∨ s.seq.form = .cmd24 ∨
          s.seq.form = .cmd25 := by simpa using hf'
        obtain h | h | h | h | h := hform <;> simp [transferNext, returned, h]

/-! ### Counting blocks (R272 to R276) -/

/-- A block or chunk is over: beside the position, blocks_done and PROG_IP may be written. -/
def CountWrites (s t : State) : Prop :=
  t = { s with op := { s.op with blocksDone := t.op.blocksDone, progIp := t.op.progIp }, seq := t.seq }

theorem countWrites_chunkDone (s : State) : CountWrites s (chunkDone s) := by
  unfold chunkDone progress
  dsimp only
  repeat' split
  all_goals rfl

theorem countWrites_blockAccepted (s : State) : CountWrites s (blockAccepted s) := by
  unfold blockAccepted
  repeat' split
  · rfl
  · rfl
  · exact countWrites_chunkDone s

theorem blocksDone_succ_toNat {s : State} (h : s.op.blocksDone.toNat < blockCount s) :
    (s.op.blocksDone + 1).toNat = s.op.blocksDone.toNat + 1 := by
  have hcount : blockCount s ≤ s.op.latLen.toNat := Nat.div_le_self _ _
  have hlen : s.op.latLen.toNat < 2 ^ 32 := s.op.latLen.isLt
  rw [BitVec.toNat_add]
  exact Nat.mod_eq_of_lt (by change _ + 1 < _; omega)

/-- R276: the block's number decides on the progress event. -/
theorem counted_op {s : State} (h : s.op.blocksDone.toNat < blockCount s) : (counted s).op = { s.op with
    blocksDone := s.op.blocksDone + 1
    progIp := s.op.progIp || decide ((s.op.blocksDone.toNat + 1) % s.cfg.progressInterval.toNat = 0) } := by
  unfold counted progress
  simp only [countBlock_op, countBlock_cfg, blocksDone_succ_toNat h]
  split <;> simp [*]

theorem counted_frame (s : State) : counted s = { s with op := (counted s).op } := by
  unfold counted progress
  split <;> rfl

/-- R275: the chunk is counted; then the next chunk, or after the last the stop token. -/
theorem chunkDone_eq {s : State} (h : s.op.blocksDone.toNat < blockCount s) : chunkDone s =
    startSend (if s.op.blocksDone.toNat + 1 < blockCount s then 0xFC else 0xFD) (counted s) := by
  have hdone : (counted s).op.blocksDone.toNat = s.op.blocksDone.toNat + 1 := by
    rw [counted_op h]
    exact blocksDone_succ_toNat h
  have hcount : blockCount (counted s) = blockCount s := by
    unfold blockCount
    rw [counted_op h]
  have hnext : chunkDone s =
      if (counted s).op.blocksDone.toNat < blockCount (counted s) then startSend 0xFC (counted s)
      else startSend 0xFD (counted s) := rfl
  rw [hnext, hdone, hcount]
  split <;> rfl

/-- R273: a block of a multi-block READ is counted; then the next block, or after the last CMD12. -/
theorem readBlockDone_multi {s : State} (hf : s.seq.form = .cmd18) (h : s.op.blocksDone.toNat < blockCount s) :
    readBlockDone s =
      if s.op.blocksDone.toNat + 1 < blockCount s then goto .recvAssert (counted s) else startCommand .cmd12 0 (counted s) := by
  have hdone : (counted s).op.blocksDone.toNat = s.op.blocksDone.toNat + 1 := by
    rw [counted_op h]
    exact blocksDone_succ_toNat h
  have hcount : blockCount (counted s) = blockCount s := by
    unfold blockCount
    rw [counted_op h]
  have hnext : readBlockDone s =
      if (counted s).op.blocksDone.toNat < blockCount (counted s) then goto .recvAssert (counted s)
      else startCommand .cmd12 0 (counted s) := if_neg (by simp [hf])
  rw [hnext, hdone, hcount]

theorem blockAccepted_single {s : State} (hf : s.seq.form = .cmd24) :
    blockAccepted s = enter .busyPoll (countBlock s) := if_pos hf

theorem blockAccepted_chunk {s : State} (hf : s.seq.form = .cmd25) : blockAccepted s =
    if s.cfg.multiWriteBlockBusy then enter .busyPoll s else chunkDone s := if_neg (by simp [hf])

/-- Settles O45: the single block is counted and the busy wait begins. -/
theorem singleWriteAccepted : Obligations.SingleWriteAccepted := by
  unfold Obligations.SingleWriteAccepted
  intro hi s hf
  refine ⟨_, rfl, ?_⟩
  rw [blockAccepted_single (s := exchange _ _ s) hf]
  exact ⟨rfl, rfl, rfl, rfl⟩

/-- Settles O46, by MULTI_WRITE_BLOCK_BUSY. -/
theorem chunkAccepted : Obligations.ChunkAccepted := by
  unfold Obligations.ChunkAccepted
  intro hi s hf hlt
  refine ⟨_, rfl, (controlWrites_blockAccepted _).traceRev, fun hb => ?_, fun hb => ?_⟩ <;>
    rw [blockAccepted_chunk (s := exchange _ _ s) hf, exchange_cfg, hb]
  · exact ⟨rfl, rfl, rfl⟩
  · rw [chunkDone_eq (s := exchange _ _ s) hlt]
    exact ⟨counted_op (s := exchange _ _ s) hlt, rfl, rfl⟩

/-- Settles O47: the rejection raises, in the step of its exchange. -/
theorem rejectedResponseRaises : Obligations.RejectedResponseRaises := by
  unfold Obligations.RejectedResponseRaises
  intro d s _
  refine ⟨_, rfl, ?_⟩
  obtain ⟨hcs, he⟩ | ⟨hcs, he⟩ := raise_cases .dataTokenError (exchange 0xFF d s) <;> rw [he] <;>
    rw [exchange_bus] at hcs <;> rw [hcs] <;> exact ⟨by simp [hcs], rfl, rfl⟩

/-! ### The frame of the byte rows -/

/-- Beside last_*, the init state and the position, a valid R1 writes nothing (R172). -/
theorem afterR1_kept (b : Byte) (s : State) : (afterR1 b s).op = s.op ∧ (afterR1 b s).geom = s.geom ∧
    (afterR1 b s).cmd.cap = s.cmd.cap ∧ (afterR1 b s).cmd.frame = s.cmd.frame := by
  cases formKind s.seq.form with
  | trails hcount hrel hf =>
    rw [afterR1_of_trailing b (by rw [hcount]; decide)]
    exact ⟨rfl, rfl, rfl, rfl⟩
  | releases hcount hcap hrel hf =>
    rw [afterR1_of_none b hcount, afterTrailing_of_release (s := holdR1 b s) hrel]
    exact ⟨rfl, rfl, rfl, rfl⟩
  | holds hcount hcap hrel hf =>
    rw [afterR1_of_none b hcount, afterTrailing_of_hold (s := holdR1 b s) hrel, endCommand_eq,
      commandReturn_of_hold (s := recorded _ (holdR1 b s)) hf]
    repeat' split
    · exact ⟨rfl, rfl, rfl, rfl⟩
    · rw [initFail_op, initFail_geom, initFail_cmd]
      exact ⟨rfl, rfl, rfl, rfl⟩
    · rw [raise_op, raise_geom, raise_cmd]
      exact ⟨rfl, rfl, rfl, rfl⟩

/-- Settles O44, row by row. -/
theorem byteRowsFrame : Obligations.ByteRowsFrame := by
  unfold Obligations.ByteRowsFrame
  intro i s t hch h
  cases i <;> simp only [channelOf, List.mem_cons, List.not_mem_nil, reduceCtorEq, or_false, or_self] at hch <;> cases h
  case r1Valid low =>
    obtain ⟨hop, hgeom, hcap, hframe⟩ := afterR1_kept ((0 : BitVec 1) ++ low) (exchange 0xFF ((0 : BitVec 1) ++ low) s)
    have hw := controlWrites_afterR1 ((0 : BitVec 1) ++ low) (exchange 0xFF ((0 : BitVec 1) ++ low) s)
    have hmem := hw.mem
    exact ⟨hw.cfg, hw.host, hgeom, hw.bus, hw.csd, hcap, hframe, hmem, fun a => by rw [memByte, hmem]; rfl,
      by rw [hw.env]; rfl, by rw [hw.env]; rfl, by rw [hop]; rfl, fun _ => hop, fun h => absurd rfl h⟩
  case dataAccepted hi =>
    have hw := countWrites_blockAccepted (exchange 0xFF (hi ++ (0b00101 : BitVec 5)) s)
    unfold CountWrites at hw
    rw [hw]
    exact ⟨rfl, rfl, rfl, rfl, rfl, rfl, rfl, rfl, fun _ => rfl, rfl, rfl, rfl, fun h => absurd rfl h, fun _ => ⟨rfl, rfl⟩⟩
  case dataRejected d =>
    obtain ⟨-, he⟩ | ⟨-, he⟩ := raise_cases .dataTokenError (exchange 0xFF d s) <;> rw [he] <;>
      exact ⟨rfl, rfl, rfl, rfl, rfl, rfl, rfl, rfl, fun _ => rfl, rfl, rfl, rfl, fun h => absurd rfl h,
        fun _ => ⟨rfl, rfl⟩⟩
  all_goals exact ⟨rfl, rfl, rfl, rfl, rfl, rfl, rfl, rfl, fun _ => rfl, rfl, rfl, rfl, fun _ => rfl, fun _ => ⟨rfl, rfl⟩⟩

end Sys2Proof.Proofs
end

section
/-! SUPPORT. The loops of data transfer (42_data_transfer sections 1, 3 and 4): the token wait (O48, O49), the busy wait (O50),
a received block (O51) and a sent one (O43). -/

namespace Sys2Proof.Proofs
open Sys2Proof.Machine Sys2Proof.Laws

/-! ### The token wait (R261) -/

theorem decodeRxToken_found {b : Byte} (h : b = 0xFE) : (decodeRxToken b).toOption = some .tokenStartRx := by
  subst h
  rfl

theorem decodeRxToken_miss {b : Byte} (h : b ≠ 0xFE) : (decodeRxToken b).toOption = none := by
  rw [decodeRxToken, if_neg h]
  rfl

/-- A poll without the token, and its Sleep. -/
theorem run_token_miss {k : Nat} {s : State} (ha : Alone s) (hb : nextMiso s ≠ 0xFE) :
    runSteps 2 (pass .recvToken k s) = .next (if k + 1 < s.cfg.tokenPollBudget.toNat then
        pass .recvToken (k + 1) (sleep s.cfg.tokenPollSleepMs (xfer 0xFF s))
      else recvTimeout (pass .recvTokenSleep k (sleep s.cfg.tokenPollSleepMs (xfer 0xFF s)))) := by
  have hpoll : step (pass .recvToken k s) = .next (pass .recvTokenSleep k (xfer 0xFF s)) :=
    step_primitive (s := pass .recvToken k s) ha (decodeRxToken_miss hb)
  exact runSteps_step hpoll (runSteps_one_of_next (step_pass (s := xfer 0xFF s) ha rfl))

theorem run_token_misses {s : State} (ha : Alone s) {n : Nat} (hn : n < s.cfg.tokenPollBudget.toNat)
    (hmiss : ∀ k, k < n → misoAt k s ≠ 0xFE) :
    runSteps (2 * n) (pass .recvToken 0 s) = .next (pass .recvToken n (polls s.cfg.tokenPollSleepMs n s)) :=
  run_loop .recvToken (fun k => polls s.cfg.tokenPollSleepMs k s) 2 fun k hk => by
    have h := run_token_miss (k := k) (s := polls s.cfg.tokenPollSleepMs k s) (by simpa using ha)
      (by simpa [nextMiso_polls] using hmiss k hk)
    rwa [polls_cfg, if_pos (by omega), ← polls_succ] at h

/-- The token wait that ends with 0xFE on poll `n + 1`. -/
theorem run_token_found {s : State} (ha : Alone s) {n : Nat} (hn : n < s.cfg.tokenPollBudget.toNat)
    (hmiss : ∀ k, k < n → misoAt k s ≠ 0xFE) (hfound : misoAt n s = 0xFE) :
    runSteps (2 * n + 1) (pass .recvToken 0 s) =
      .next (pass .recvData 0 (xfer 0xFF (polls s.cfg.tokenPollSleepMs n s))) := by
  have hnext : nextMiso (polls s.cfg.tokenPollSleepMs n s) = 0xFE := (nextMiso_polls _ n s).trans hfound
  have hstep : step (pass .recvToken n (polls s.cfg.tokenPollSleepMs n s)) =
      .next (pass .recvData 0 (xfer 0xFF (polls s.cfg.tokenPollSleepMs n s))) := by
    rw [step_exec (s := pass .recvToken n _) (i := .tokenStartRx) (by simpa using ha) (decodeRxToken_found hnext), xfer,
      hnext]
    rfl
  exact runSteps_trans_step (run_token_misses ha hn hmiss) hstep

/-- The token wait whose budget `n` is spent. -/
theorem run_token_timeout {s : State} (ha : Alone s) {n : Nat} (hn : n = s.cfg.tokenPollBudget.toNat) (hpos : 0 < n)
    (hmiss : ∀ k, k < n → misoAt k s ≠ 0xFE) : runSteps (2 * n) (pass .recvToken 0 s) =
      .next (recvTimeout (pass .recvTokenSleep (n - 1) (polls s.cfg.tokenPollSleepMs n s))) := by
  obtain ⟨n, rfl⟩ := Nat.exists_eq_succ_of_ne_zero hpos.ne'
  have hlast := run_token_miss (k := n) (s := polls s.cfg.tokenPollSleepMs n s) (by simpa using ha)
    (by simpa [nextMiso_polls] using hmiss n (by omega))
  rw [polls_cfg, if_neg (by omega), ← polls_succ] at hlast
  exact runSteps_trans (run_token_misses ha (by omega) fun k hk => hmiss k (by omega)) hlast

theorem misoAt_of_listed {k : Nat} {b : Byte} {s : State} (h : s.env.miso[k]? = some b) : misoAt k s = b := by
  unfold misoAt
  rw [h]

/-- One exchange of 0xFF after a row of polls. -/
theorem trace_xfer_polls (ms : Word) (n : Nat) (s : State) : (xfer 0xFF (polls ms n s)).trace =
    s.trace ++ pollEvents ms n s ++ exchanges s.bus.csAsserted n [0xFF] s := by
  rw [trace_xfer, trace_polls, misoAt_polls, polls_bus]
  rfl

/-- Settles O48, by the misses and the poll that finds the token. -/
theorem waitTokenFinds : Obligations.WaitTokenFinds := by
  unfold Obligations.WaitTokenFinds
  intro s before after hv hh hpos hk hmiso hbefore hbudget
  have hmiss : ∀ k, k < before.length → misoAt k s ≠ 0xFE := fun k hk => by
    rw [misoAt_of_listed (b := before[k]) (by rw [hmiso, List.getElem?_append_left hk, List.getElem?_eq_getElem hk])]
    exact hbefore _ (List.getElem_mem hk)
  have hfound : misoAt before.length s = 0xFE := misoAt_of_listed (by simp [hmiso])
  have hrun := run_token_found ⟨hv, hh⟩ hbudget hmiss hfound
  rw [pass_self hpos hk] at hrun
  exact ⟨_, hrun, rfl, rfl, by simp, by simp [hmiso], trace_xfer_polls _ _ s, by simp, by simp, by simp⟩

theorem trace_aborted {s : State} (hcs : s.bus.csAsserted = true) :
    (aborted s).trace = s.trace ++ .cs false :: exchanges false 0 [0xFF] s := by
  change (xfer 0xFF (csDeassert s)).trace = _
  rw [trace_xfer, trace_csDeassert, hcs, misoAt_csDeassert]
  simp [exchanges_cons]

/-- Abort's events after a row of polls. -/
theorem trace_aborted_polls (ms : Word) (n : Nat) {s : State} (hcs : s.bus.csAsserted = true) :
    (aborted (polls ms n s)).trace = s.trace ++ pollEvents ms n s ++ .cs false :: exchanges false n [0xFF] s := by
  rw [trace_aborted (by simpa using hcs), trace_polls, exchanges_polls]
  rfl

/-- A transfer's budget of polls is spent: Abort, then completion with the code raised (R272 to R275, R352). -/
theorem run_raise_polls {s : State} (ha : Alone s) (hcs : s.bus.csAsserted = true) (hop : s.op.latOp ≠ 0x1)
    (kind : ErrCode) (p : Pos) (k : Nat) (ms : Word) (n : Nat) :
    ∃ t, runSteps 3 (raise kind (pass p k (polls ms n s))) = .next t ∧ hasCompleted kind t ∧ t.bus.csAsserted = false ∧
      t.env.drawn = s.env.drawn + n + 1 ∧ t.mem = s.mem ∧ t.op.blocksDone = s.op.blocksDone ∧ t.initState = s.initState ∧
      t.trace = s.trace ++ pollEvents ms n s ++ .cs false :: exchanges false n [0xFF] s := by
  rw [raise_of_asserted kind (pass p k (polls ms n s)) (by simpa using hcs)]
  exact ⟨_, run_abort_transfer ((alone_polls ms n s).2 ha) rfl (by simpa using hop), ⟨rfl, rfl, rfl, rfl⟩, rfl,
    by simp [aborted], by simp [aborted], by simp [aborted], by simp [aborted], trace_aborted_polls ms n hcs⟩

/-- Settles O49: the spent budget raises in a READ, and in CsdRead takes the attempt to Fail. -/
theorem waitTokenTimesOut : Obligations.WaitTokenTimesOut := by
  unfold Obligations.WaitTokenTimesOut
  intro s n hv hh hpos hk hn hmiss hcs
  have ha : Alone s := ⟨hv, hh⟩
  have hrun := run_token_timeout ha hn (hn ▸ (budgets_pos hv).2.1) hmiss
  rw [pass_self hpos hk] at hrun
  refine ⟨fun hf hop => ?_, fun hf hop => ?_⟩
  · have hraise : ∀ p k, recvTimeout (pass p k (polls s.cfg.tokenPollSleepMs n s)) =
        raise .dataTokenError (pass p k (polls s.cfg.tokenPollSleepMs n s)) := fun p k => if_neg (by simpa using hf)
    rw [hraise] at hrun
    obtain ⟨t, hend, hdone, hbus, hdrawn, hmem, hcount, hinit, htrace⟩ := run_raise_polls ha hcs hop .dataTokenError
      .recvTokenSleep (n - 1) s.cfg.tokenPollSleepMs n
    exact ⟨t, runSteps_trans hrun hend, hdone, hbus, hdrawn, hmem, hcount, hinit, htrace⟩
  · have hfail : ∀ p k, recvTimeout (pass p k (polls s.cfg.tokenPollSleepMs n s)) =
        pass .abortRelease k (polls s.cfg.tokenPollSleepMs n s) := fun p k =>
      (if_pos (by simpa using hf)).trans (initFail_of_asserted (pass p k _) (by simpa using hcs))
    rw [hfail] at hrun
    have hend := run_abort_init (s := pass .abortRelease (n - 1) (polls s.cfg.tokenPollSleepMs n s)) (by simpa using ha)
      rfl (by simpa using hop)
    have hw := returnWrites_attemptFailed (aborted (pass .abortRelease (n - 1) (polls s.cfg.tokenPollSleepMs n s)))
    refine ⟨_, runSteps_trans hrun hend, hasFailed_attemptFailed (by simp [aborted]) rfl, ?_, ?_, ?_, ?_, ?_, ?_, ?_⟩
    · rw [hw.op]
      simp [aborted]
    · rw [hw.control.bus]
      simp [aborted]
    · rw [hw.control.env]
      simp [aborted]
    · rw [hw.control.csd]
      simp [aborted]
    · rw [attemptFailed_geom]
      simp [aborted]
    · rw [hw.control.mem]
      simp [aborted]
    · rw [hw.control.trace]
      exact trace_aborted_polls _ n hcs

/-! ### The busy wait (R266) -/

theorem decodeBusy_busy {b : Byte} (h : b = 0x00) : (decodeBusy b).toOption = some .busy := by
  subst h
  rfl

theorem decodeBusy_other {b : Byte} (h : b ≠ 0x00) : (decodeBusy b).toOption = none := by
  rw [decodeBusy, if_neg h]
  rfl

/-- A busy byte, and its Sleep. -/
theorem run_busy_byte {k : Nat} {s : State} (ha : Alone s) (hb : nextMiso s = 0x00) :
    runSteps 2 (pass .busyPoll k s) = .next (if k + 1 < s.cfg.busyPollBudget.toNat then
        pass .busyPoll (k + 1) (sleep s.cfg.busyPollSleepMs (xfer 0xFF s))
      else raise .busTimeout (pass .busySleep k (sleep s.cfg.busyPollSleepMs (xfer 0xFF s)))) := by
  have hpoll : step (pass .busyPoll k s) = .next (pass .busySleep k (xfer 0xFF s)) := by
    rw [step_exec (s := pass .busyPoll k s) ha (decodeBusy_busy hb), xfer, hb]
    rfl
  exact runSteps_step hpoll (runSteps_one_of_next (step_pass (s := xfer 0xFF s) ha rfl))

theorem run_busy_bytes {s : State} (ha : Alone s) {n : Nat} (hn : n < s.cfg.busyPollBudget.toNat)
    (hbusy : ∀ k, k < n → misoAt k s = 0x00) :
    runSteps (2 * n) (pass .busyPoll 0 s) = .next (pass .busyPoll n (polls s.cfg.busyPollSleepMs n s)) :=
  run_loop .busyPoll (fun k => polls s.cfg.busyPollSleepMs k s) 2 fun k hk => by
    have h := run_busy_byte (k := k) (s := polls s.cfg.busyPollSleepMs k s) (by simpa using ha)
      ((nextMiso_polls _ k s).trans (hbusy k hk))
    rwa [polls_cfg, if_pos (by omega), ← polls_succ] at h

/-- The busy wait that ends with another byte on poll `n + 1`. -/
theorem run_busy_ends {s : State} (ha : Alone s) {n : Nat} (hn : n < s.cfg.busyPollBudget.toNat)
    (hbusy : ∀ k, k < n → misoAt k s = 0x00) (hend : misoAt n s ≠ 0x00) : runSteps (2 * n + 1) (pass .busyPoll 0 s) =
      .next (busyDone (pass .busyPoll n (xfer 0xFF (polls s.cfg.busyPollSleepMs n s)))) :=
  runSteps_trans_step (run_busy_bytes ha hn hbusy) (step_primitive (s := pass .busyPoll n _) (by simpa using ha)
    (decodeBusy_other fun h => hend ((nextMiso_polls _ n s).symm.trans h)))

/-- The busy wait whose budget `n` is spent. -/
theorem run_busy_timeout {s : State} (ha : Alone s) {n : Nat} (hn : n = s.cfg.busyPollBudget.toNat) (hpos : 0 < n)
    (hbusy : ∀ k, k < n → misoAt k s = 0x00) : runSteps (2 * n) (pass .busyPoll 0 s) =
      .next (raise .busTimeout (pass .busySleep (n - 1) (polls s.cfg.busyPollSleepMs n s))) := by
  obtain ⟨n, rfl⟩ := Nat.exists_eq_succ_of_ne_zero hpos.ne'
  have hlast := run_busy_byte (k := n) (s := polls s.cfg.busyPollSleepMs n s) (by simpa using ha)
    ((nextMiso_polls _ n s).trans (hbusy n (by omega)))
  rw [polls_cfg, if_neg (by omega), ← polls_succ] at hlast
  exact runSteps_trans (run_busy_bytes ha (by omega) fun k hk => hbusy k (by omega)) hlast

/-- The release that ends a write (R267, R274), and completion. -/
theorem run_endRelease {k : Nat} {s : State} (ha : Alone s) : runSteps 3 (pass .endRelease k s) =
    .next (complete .ok (finishWith .ok (pass .endReleaseClock k (xfer 0xFF (csDeassert s))))) :=
  runSteps_step (t := pass .endReleaseClock k (csDeassert s)) (step_pass ha rfl)
    (runSteps_step (t := finishWith .ok (pass .endReleaseClock k (xfer 0xFF (csDeassert s))))
      (step_pass (s := csDeassert s) ha rfl)
      (runSteps_one_of_next (step_at (s := finishWith .ok (pass _ k (xfer 0xFF (csDeassert s)))) ha rfl rfl)))

theorem busyDone_end {s : State} (h : s.seq.tok ≠ 0xFC) : busyDone s = goto .endRelease s := if_neg h

theorem busyDone_chunk {s : State} (h : s.seq.tok = 0xFC) : busyDone s = chunkDone s := if_pos h

/-- Settles O50, by what the byte other than 0x00 ends, and by the spent budget. -/
theorem busyWaitEnds : Obligations.BusyWaitEnds := by
  unfold Obligations.BusyWaitEnds
  intro s hv hh hpos hk
  have ha : Alone s := ⟨hv, hh⟩
  refine ⟨fun n hn hbusy hend => ?_, fun hbusy hcs hop => ?_⟩
  · have hrun := run_busy_ends ha hn hbusy hend
    rw [pass_self hpos hk] at hrun
    have hw := controlWrites_busyDone (pass .busyPoll n (xfer 0xFF (polls s.cfg.busyPollSleepMs n s)))
    refine ⟨_, hrun, ?_, ?_, ?_, ?_, fun htok => ?_, fun htok hlt => ?_⟩
    · rw [hw.env]
      simp
    · rw [hw.bus]
      simp
    · rw [hw.mem]
      simp
    · rw [hw.trace]
      exact trace_xfer_polls _ n s
    · rw [busyDone_end (by simpa using htok)]
      refine ⟨rfl, by simp, _, run_endRelease (by simpa using ha), ⟨rfl, rfl, rfl, rfl⟩, rfl, by simp, by simp, ?_⟩
      change (xfer 0xFF (csDeassert (xfer 0xFF (polls s.cfg.busyPollSleepMs n s)))).trace = _
      rw [trace_xfer, trace_csDeassert, misoAt_csDeassert, misoAt_xfer, misoAt_polls, xfer_bus, polls_bus]
      rfl
    · have hcount : blockCount (pass .busyPoll n (xfer 0xFF (polls s.cfg.busyPollSleepMs n s))) = blockCount s := by
        simp [blockCount]
      have hlt' : (pass .busyPoll n (xfer 0xFF (polls s.cfg.busyPollSleepMs n s))).op.blocksDone.toNat <
          blockCount (pass .busyPoll n (xfer 0xFF (polls s.cfg.busyPollSleepMs n s))) := by
        rw [hcount]
        simpa using hlt
      rw [busyDone_chunk (by simpa using htok), chunkDone_eq hlt', startSend_op, counted_op hlt', hcount]
      simp
  · have hrun := run_busy_timeout ha rfl (budgets_pos hv).2.2 hbusy
    rw [pass_self hpos hk] at hrun
    obtain ⟨t, hend, hdone, hbus, hdrawn, hmem, hcount, -, htrace⟩ := run_raise_polls ha hcs hop .busTimeout .busySleep
      (s.cfg.busyPollBudget.toNat - 1) s.cfg.busyPollSleepMs s.cfg.busyPollBudget.toNat
    exact ⟨t, runSteps_trans hrun hend, hdone, hbus, hdrawn, htrace, hcount, hmem⟩

end Sys2Proof.Proofs
end

section
/-! SUPPORT. A received block (O51) and a sent block (O43): the byte loops of 42_data_transfer section 1. -/

namespace Sys2Proof.Proofs
open Sys2Proof.Machine Sys2Proof.Laws

theorem alone_of_framerAlone {s : State} (hv : s.cfg.valid = true) (h : framerAlone s = true) :
    Alone s ∧ s.env.refused = [] := by
  simp only [framerAlone, Bool.and_eq_true, beq_iff_eq] at h
  exact ⟨⟨hv, h.1⟩, h.2⟩

theorem memAdmits_of_none {s : State} (h : s.env.refused = []) (a : Word) : memAdmits a s = true := by
  simp [memAdmits, h]

/-- The address of byte `k` of the block in progress (R93; log 16). -/
def blockAddress (s : State) (k : Nat) : Word := bufferAddress (512 * s.op.blocksDone.toNat + k) s

theorem blockAddress_congr {s t : State} (h : t.op = s.op) (k : Nat) : blockAddress t k = blockAddress s k := by
  unfold blockAddress bufferAddress
  rw [h]

/-- A block's 512 addresses are distinct. -/
theorem blockAddress_injective (s : State) {i j : Nat} (hi : i < 512) (hj : j < 512) (h : blockAddress s i = blockAddress s j) :
    i = j := by
  have hnat := congrArg BitVec.toNat h
  simp only [blockAddress, bufferAddress, BitVec.toNat_add, BitVec.toNat_ofNat] at hnat
  omega

/-! ### A received sector (R262) -/

/-- Data byte `k` arrives and is stored in host memory. -/
def storeByte (k : Nat) (s : State) : State :=
  memWrite (blockAddress s k) (nextMiso s) { xfer 0xFF s with seq := { s.seq with datum := nextMiso s } }

/-- `s` after the first `k` bytes of a sector. -/
def stored : Nat → State → State
  | 0, s => s
  | k + 1, s => storeByte k (stored k s)

theorem run_storeByte {k : Nat} {s : State} (ha : Alone s) (hr : s.env.refused = []) (hf : s.seq.form ≠ .cmd9) :
    runSteps 2 (pass .recvData k s) =
      .next (if k + 1 < 512 then pass .recvData (k + 1) (storeByte k s) else pass .recvCrc 0 (storeByte k s)) := by
  have hdata : step (pass .recvData k s) =
      .next (pass .recvStore k { xfer 0xFF s with seq := { s.seq with datum := nextMiso s } }) := by
    rw [step_pass ha rfl]
    exact congrArg _ (if_neg hf)
  have hstore : step (pass .recvStore k { xfer 0xFF s with seq := { s.seq with datum := nextMiso s } }) =
      .next (if k + 1 < 512 then pass .recvData (k + 1) (storeByte k s) else pass .recvCrc 0 (storeByte k s)) := by
    rw [step_pass (s := { xfer 0xFF s with seq := { s.seq with datum := nextMiso s } }) ha rfl]
    have hadmit := memAdmits_of_none (s := pass .recvStore k { xfer 0xFF s with seq := { s.seq with datum := nextMiso s } }) hr
    have hlen : recvLength (pass .recvStore k { xfer 0xFF s with seq := { s.seq with datum := nextMiso s } }) = 512 :=
      if_neg hf
    refine (if_pos (hadmit _)).trans ?_
    rw [hlen]
    rfl
  exact runSteps_step hdata (runSteps_one_of_next hstore)

/-- Storing bytes writes host memory, TRACE, the card's coming bytes and the byte in transit. -/
theorem stored_frame (k : Nat) (s : State) : ∃ d tr mem env,
    stored k s = { s with seq := { s.seq with datum := d }, traceRev := tr, mem := mem, env := env } ∧
      env.host = s.env.host ∧ env.refused = s.env.refused ∧ env.drawn = s.env.drawn + k := by
  induction k with
  | zero => exact ⟨_, _, _, _, rfl, rfl, rfl, rfl⟩
  | succ k ih =>
    obtain ⟨d, tr, mem, env, h, hh, hr, hd⟩ := ih
    refine ⟨nextMiso (stored k s), (storeByte k (stored k s)).traceRev, (storeByte k (stored k s)).mem,
      (storeByte k (stored k s)).env, ?_, ?_, ?_, ?_⟩
    · rw [stored, h]
      rfl
    all_goals
      rw [h]
    · exact hh
    · exact hr
    · exact congrArg (· + 1) hd

section
variable (k : Nat) (s : State)

@[simp] theorem stored_cfg : (stored k s).cfg = s.cfg := by obtain ⟨_, _, _, _, h, -⟩ := stored_frame k s; rw [h]
@[simp] theorem stored_op : (stored k s).op = s.op := by obtain ⟨_, _, _, _, h, -⟩ := stored_frame k s; rw [h]
@[simp] theorem stored_bus : (stored k s).bus = s.bus := by obtain ⟨_, _, _, _, h, -⟩ := stored_frame k s; rw [h]
@[simp] theorem stored_form : (stored k s).seq.form = s.seq.form := by
  obtain ⟨_, _, _, _, h, -⟩ := stored_frame k s; rw [h]
@[simp] theorem stored_refused : (stored k s).env.refused = s.env.refused := by
  obtain ⟨_, _, _, _, h, -, hr, -⟩ := stored_frame k s; rw [h, hr]
@[simp] theorem stored_drawn : (stored k s).env.drawn = s.env.drawn + k := by
  obtain ⟨_, _, _, _, h, -, -, hd⟩ := stored_frame k s; rw [h, hd]
@[simp] theorem alone_stored : Alone (stored k s) ↔ Alone s := by
  obtain ⟨_, _, _, _, h, hh, -⟩ := stored_frame k s
  rw [h]
  exact alone_congr rfl hh

theorem misoAt_stored (j : Nat) : misoAt j (stored k s) = misoAt (k + j) s := by
  induction k generalizing j with
  | zero => rw [Nat.zero_add]; rfl
  | succ k ih =>
    have hstep : misoAt j (storeByte k (stored k s)) = misoAt (j + 1) (stored k s) := misoAt_xfer j 0xFF _
    rw [stored, hstep, ih]
    congr 1
    omega

theorem nextMiso_stored : nextMiso (stored k s) = misoAt k s := by rw [← misoAt_zero, misoAt_stored, Nat.add_zero]

theorem stored_succ_mem : (stored (k + 1) s).mem =
    memoryWrite (stored k s).mem (blockAddress s k).toNat (misoAt k s) := by
  rw [← nextMiso_stored, ← blockAddress_congr (stored_op k s)]
  rfl

theorem trace_stored : (stored k s).trace = s.trace ++ (List.range k).flatMap fun i =>
    [.x s.bus.csAsserted 0xFF (misoAt i s), .mw (blockAddress s i) (misoAt i s)] := by
  induction k with
  | zero => simp [stored]
  | succ k ih =>
    have hstep : (storeByte k (stored k s)).trace = (stored k s).trace ++
        [.x (stored k s).bus.csAsserted 0xFF (nextMiso (stored k s)),
          .mw (blockAddress (stored k s) k) (nextMiso (stored k s))] := by
      simp [storeByte, State.trace]
    rw [stored, hstep, ih, stored_bus, nextMiso_stored, blockAddress_congr (stored_op k s), List.range_succ]
    simp

end

theorem stored_wf (k : Nat) {s : State} (h : Memory.wf s.mem = true) : Memory.wf (stored k s).mem = true := by
  induction k with
  | zero => exact h
  | succ k ih =>
    rw [stored_succ_mem]
    exact memory_wf_write _ _ _ ih

/-- The bytes of host memory after the first `k` bytes of a sector. -/
theorem memByte_stored {k : Nat} (hk : k ≤ 512) {s : State} (hwf : Memory.wf s.mem = true) :
    (∀ i, i < k → memByte (blockAddress s i) (stored k s) = misoAt i s) ∧
      (∀ a, (∀ i, i < k → a ≠ blockAddress s i) → memByte a (stored k s) = memByte a s) := by
  induction k with
  | zero => exact ⟨nofun, fun _ _ => rfl⟩
  | succ k ih =>
    obtain ⟨hstored, hkept⟩ := ih (by omega)
    have hsame : memByte (blockAddress s k) (stored (k + 1) s) = misoAt k s := by
      rw [memByte, stored_succ_mem]
      exact memoryRead_write_same _ _ _ 0 (stored_wf k hwf)
    have hother : ∀ a, a ≠ blockAddress s k → memByte a (stored (k + 1) s) = memByte a (stored k s) := fun a hne => by
      rw [memByte, stored_succ_mem]
      exact memoryRead_write_other _ _ _ _ 0 (stored_wf k hwf) fun h => hne (BitVec.eq_of_toNat_eq h)
    refine ⟨fun i hi => ?_, fun a ha => ?_⟩
    · by_cases hik : i = k
      · rw [hik, hsame]
      · rw [hother _ fun h => hik (blockAddress_injective s (by omega) (by omega) h), hstored i (by omega)]
    · rw [hother a (ha k (by omega)), hkept a fun i hi => ha i (by omega)]

/-- What a run leaves behind that has stored `k` bytes and goes on at `p`. -/
theorem pass_stored (p : Pos) (j : Nat) {k : Nat} (hk : k ≤ 512) {s : State} (hwf : Memory.wf s.mem = true) :
    (pass p j (stored k s)).env.drawn = s.env.drawn + k ∧
      (∀ i, i < k → memByte (bufferAddress (512 * s.op.blocksDone.toNat + i) s) (pass p j (stored k s)) = misoAt i s) ∧
      (∀ a, (∀ i, i < k → a ≠ bufferAddress (512 * s.op.blocksDone.toNat + i) s) →
        memByte a (pass p j (stored k s)) = memByte a s) ∧
      (pass p j (stored k s)).trace = s.trace ++ (List.range k).flatMap (fun i =>
        [.x s.bus.csAsserted 0xFF (misoAt i s),
          .mw (bufferAddress (512 * s.op.blocksDone.toNat + i) s) (misoAt i s)]) ∧
      (pass p j (stored k s)).op = s.op ∧ (pass p j (stored k s)).bus = s.bus := by
  obtain ⟨hstored, hkept⟩ := memByte_stored hk hwf
  exact ⟨stored_drawn k s, hstored, hkept, trace_stored k s, stored_op k s, stored_bus k s⟩

/-- The 512 bytes of a sector. -/
theorem run_sector {s : State} (ha : Alone s) (hr : s.env.refused = []) (hf : s.seq.form ≠ .cmd9) :
    runSteps 1024 (pass .recvData 0 s) = .next (pass .recvCrc 0 (stored 512 s)) := by
  have hbyte := fun k => run_storeByte (k := k) (s := stored k s) (by simpa using ha) (by simpa using hr) (by simpa using hf)
  have hloop := run_loop .recvData (stored · s) 2 (n := 511) fun k hk =>
    (hbyte k).trans (congrArg _ (if_pos (Nat.succ_lt_succ hk)))
  exact runSteps_trans hloop (hbyte 511)

/-! ### The CSD block (R234) -/

/-- `s` after the first `k` bytes of the CSD block. -/
def csdRead (k : Nat) (s : State) : State :=
  { xfers (List.replicate k 0xFF) s with csd := fillWith (misoAt · s) s.csd k }

theorem trace_csdRead (k : Nat) (s : State) :
    (csdRead k s).trace = s.trace ++ exchanges s.bus.csAsserted 0 (List.replicate k 0xFF) s :=
  trace_xfers (List.replicate k 0xFF) s

theorem step_csdByte {k : Nat} {s : State} (ha : Alone s) (hf : s.seq.form = .cmd9) : step (pass .recvData k (csdRead k s)) =
    .next (if k + 1 < 16 then pass .recvData (k + 1) (csdRead (k + 1) s) else pass .recvCrc 0 (csdRead (k + 1) s)) := by
  have halone : Alone (csdRead k s) := (alone_xfers (List.replicate k 0xFF) s).2 ha
  have hform : (csdRead k s).seq.form = .cmd9 := (congrArg Seq.form (xfers_seq _ s)).trans hf
  have hmiso : nextMiso (csdRead k s) = misoAt k s := by
    have h := nextMiso_xfers (List.replicate k 0xFF) s
    rwa [List.length_replicate] at h
  have hbyte : { xfer 0xFF (csdRead k s) with csd := (csdRead k s).csd.setIfInBounds k (misoAt k s) } =
      csdRead (k + 1) s := by
    unfold csdRead
    rw [xfers_replicate_succ]
    rfl
  rw [step_pass halone rfl, ← hbyte, ← hmiso]
  refine congrArg _ ((if_pos hform).trans ?_)
  rw [show recvLength (pass .recvData k (csdRead k s)) = 16 from if_pos hform]
  rfl

/-- The 16 bytes of the CSD block. -/
theorem run_csd {s : State} (ha : Alone s) (hf : s.seq.form = .cmd9) :
    runSteps 16 (pass .recvData 0 s) = .next (pass .recvCrc 0 (csdRead 16 s)) := by
  have hloop := run_loop .recvData (csdRead · s) 1 (n := 15) fun k hk =>
    runSteps_one_of_next ((step_csdByte ha hf).trans (congrArg _ (if_pos (Nat.succ_lt_succ hk))))
  exact runSteps_trans_step hloop (step_csdByte ha hf)

/-! ### After the data bytes (R262) -/

/-- The two CRC bytes and the release. -/
theorem run_recvCrc {s : State} (ha : Alone s) : runSteps 3 (pass .recvCrc 0 s) =
    .next (pass .recvReleaseClock 1 (csDeassert (xfers [0xFF, 0xFF] s))) :=
  runSteps_step (t := pass .recvCrc 1 (xfer 0xFF s)) (step_pass ha rfl)
    (runSteps_step (t := pass .recvRelease 1 (xfers [0xFF, 0xFF] s)) (step_pass (s := xfer 0xFF s) ha rfl)
      (runSteps_one_of_next (step_pass (s := xfers [0xFF, 0xFF] s) ha rfl)))

theorem trace_xfer_exchanges (m : Byte) (s : State) :
    (xfer m s).trace = s.trace ++ exchanges s.bus.csAsserted 0 [m] s := trace_xfer m s

theorem step_recvReleaseClock {s : State} (ha : Alone s) (hpos : s.seq.pos = .recvReleaseClock) (hf : s.seq.form ≠ .cmd9) :
    step s = .next (readBlockDone (xfer 0xFF s)) := by
  rw [step_at ha hpos rfl, primitive, hpos]
  exact congrArg _ (if_neg hf)

/-- Settles O51, part by part: the sector, the CSD block, the CRC and release, and the end of each kind of READ. -/
theorem receivedBlockIsStored : Obligations.ReceivedBlockIsStored := by
  unfold Obligations.ReceivedBlockIsStored
  intro s hv hfa
  obtain ⟨ha, hr⟩ := alone_of_framerAlone hv hfa
  refine ⟨fun hpos hk hf hwf => ?_, fun hpos hk hf => ?_, fun hpos hk hcs => ?_, fun hpos hf => ?_, fun hpos hf hlt => ?_⟩
  · have hrun := run_sector ha hr hf
    rw [pass_self hpos hk] at hrun
    exact ⟨_, hrun, rfl, rfl, pass_stored _ _ le_rfl hwf⟩
  · have hrun := run_csd ha hf
    rw [pass_self hpos hk] at hrun
    refine ⟨_, hrun, rfl, rfl, by simp [csdRead], ?_, by simp [csdRead], (pass_trace _ _ _).trans (trace_csdRead 16 s), by simp [csdRead],
      by simp [csdRead], by simp [csdRead]⟩
    rw [pass_csd, csdRead, fillWith_toList _ _ le_rfl]
    simp
  · have hrun := run_recvCrc ha
    rw [pass_self hpos hk] at hrun
    refine ⟨_, hrun, rfl, rfl, ?_, rfl, rfl, rfl⟩
    rw [pass_trace, trace_csDeassert, trace_xfers, xfers_bus, hcs]
    rfl
  · have hstep := step_recvReleaseClock ha hpos (by simp [hf])
    have hdone : readBlockDone (xfer 0xFF s) = finishWith .ok (countBlock (xfer 0xFF s)) := if_pos hf
    rw [hdone] at hstep
    exact ⟨_, runSteps_step hstep (runSteps_one_of_next (step_at (s := finishWith _ (countBlock (xfer _ s))) ha rfl rfl)),
      ⟨rfl, rfl, rfl, rfl⟩, rfl, rfl, trace_xfer_exchanges 0xFF s, rfl⟩
  · have hstep := step_recvReleaseClock ha hpos (by simp [hf])
    have hw := controlWrites_readBlockDone (xfer 0xFF s)
    have hdone : readBlockDone (xfer 0xFF s) = if s.op.blocksDone.toNat + 1 < blockCount s then
        goto .recvAssert (counted (xfer 0xFF s)) else startCommand .cmd12 0 (counted (xfer 0xFF s)) :=
      readBlockDone_multi (s := xfer 0xFF s) hf hlt
    refine ⟨_, hstep, ?_, hw.trace.trans (trace_xfer_exchanges 0xFF s), hw.mem, fun hmore => ?_, fun hlast => ?_⟩ <;>
      rw [hdone]
    · rw [apply_ite State.op]
      exact (ite_self _).trans (counted_op (s := xfer 0xFF s) hlt)
    · rw [if_pos hmore]
      rfl
    · rw [if_neg hlast.not_lt, startCommand_frame, (controlWrites_counted _).cfg]
      exact ⟨rfl, rfl, rfl⟩

/-! ### A sent block (R264) -/

/-- Data byte `k` is read from host memory and sent. -/
def sendByte (k : Nat) (s : State) : State :=
  xfer (memByte (blockAddress s k) s) (memRead (blockAddress s k) s)

/-- `s` after the first `k` bytes of a block. -/
def sent : Nat → State → State
  | 0, s => s
  | k + 1, s => sendByte k (sent k s)

theorem run_sendByte {k : Nat} {s : State} (ha : Alone s) (hr : s.env.refused = []) :
    runSteps 2 (pass .sendFetch k s) =
      .next (if k + 1 < 512 then pass .sendFetch (k + 1) (sendByte k s) else pass .sendCrc 0 (sendByte k s)) := by
  have hfetch : step (pass .sendFetch k s) = .next (pass .sendData k (memRead (blockAddress s k) s)) := by
    rw [step_pass ha rfl]
    exact if_pos (memAdmits_of_none (s := pass .sendFetch k s) hr _)
  exact runSteps_step hfetch (runSteps_one_of_next (step_pass (s := memRead _ s) ha rfl))

/-- Sending bytes writes TRACE, the card's coming bytes and the byte in transit. -/
theorem sent_frame (k : Nat) (s : State) : ∃ d tr env,
    sent k s = { s with seq := { s.seq with datum := d }, traceRev := tr, env := env } ∧
      env.host = s.env.host ∧ env.refused = s.env.refused ∧ env.drawn = s.env.drawn + k := by
  induction k with
  | zero => exact ⟨_, _, _, rfl, rfl, rfl, rfl⟩
  | succ k ih =>
    obtain ⟨d, tr, env, h, hh, hr, hd⟩ := ih
    refine ⟨memByte (blockAddress s k) s, (sendByte k (sent k s)).traceRev, (sendByte k (sent k s)).env, ?_, ?_, ?_, ?_⟩
    · rw [sent, h]
      rfl
    all_goals
      rw [h]
    · exact hh
    · exact hr
    · exact congrArg (· + 1) hd

section
variable (k : Nat) (s : State)

@[simp] theorem sent_op : (sent k s).op = s.op := by obtain ⟨_, _, _, h, -⟩ := sent_frame k s; rw [h]
@[simp] theorem sent_bus : (sent k s).bus = s.bus := by obtain ⟨_, _, _, h, -⟩ := sent_frame k s; rw [h]
@[simp] theorem sent_mem : (sent k s).mem = s.mem := by obtain ⟨_, _, _, h, -⟩ := sent_frame k s; rw [h]
@[simp] theorem sent_refused : (sent k s).env.refused = s.env.refused := by
  obtain ⟨_, _, _, h, -, hr, -⟩ := sent_frame k s; rw [h, hr]
@[simp] theorem sent_drawn : (sent k s).env.drawn = s.env.drawn + k := by
  obtain ⟨_, _, _, h, -, -, hd⟩ := sent_frame k s; rw [h, hd]
@[simp] theorem alone_sent : Alone (sent k s) ↔ Alone s := by
  obtain ⟨_, _, _, h, hh, -⟩ := sent_frame k s
  rw [h]
  exact alone_congr rfl hh

theorem misoAt_sent (j : Nat) : misoAt j (sent k s) = misoAt (k + j) s := by
  induction k generalizing j with
  | zero => rw [Nat.zero_add]; rfl
  | succ k ih =>
    have hstep : misoAt j (sendByte k (sent k s)) = misoAt (j + 1) (sent k s) := misoAt_xfer j _ (memRead _ (sent k s))
    rw [sent, hstep, ih]
    congr 1
    omega

/-- The events of the first `k` bytes: each is read and then sent. -/
theorem trace_sent : (sent k s).trace = s.trace ++ (List.range k).flatMap fun i =>
    [.mr (blockAddress s i) (memByte (blockAddress s i) s),
      .x s.bus.csAsserted (memByte (blockAddress s i) s) (misoAt i s)] := by
  induction k with
  | zero => simp [sent]
  | succ k ih =>
    have haddr : blockAddress (sent k s) k = blockAddress s k := blockAddress_congr (sent_op k s) k
    have hbyte : memByte (blockAddress s k) (sent k s) = memByte (blockAddress s k) s := by simp only [memByte, sent_mem]
    have hnext : nextMiso (memRead (blockAddress s k) (sent k s)) = misoAt k s := by
      rw [← misoAt_zero]
      exact misoAt_sent k s 0
    have hstep : (sendByte k (sent k s)).trace = (sent k s).trace ++
        [.mr (blockAddress s k) (memByte (blockAddress s k) s),
          .x s.bus.csAsserted (memByte (blockAddress s k) s) (misoAt k s)] := by
      simp [sendByte, State.trace, haddr, hbyte, hnext]
    rw [sent, hstep, ih, List.range_succ]
    simp

end

/-- The two dummy CRC bytes (R264). -/
theorem run_sendCrc {s : State} (ha : Alone s) :
    runSteps 2 (pass .sendCrc 0 s) = .next (pass .sendResponse 1 (xfers [0xFF, 0xFF] s)) :=
  runSteps_step (t := pass .sendCrc 1 (xfer 0xFF s)) (step_pass ha rfl)
    (runSteps_one_of_next (step_pass (s := xfer 0xFF s) ha rfl))

/-- The bytes of a block and its CRC bytes, where byte `n` is the block's last. -/
theorem run_sendBlock {n : Nat} {s : State} (hn : n + 1 = 512) (ha : Alone s) (hr : s.env.refused = []) :
    runSteps (2 * n + 2 + 2) (pass .sendFetch 0 s) =
      .next (pass .sendResponse 1 (xfers [0xFF, 0xFF] (sent (n + 1) s))) := by
  have hbyte := fun k =>
    run_sendByte (k := k) (s := sent k s) ((alone_sent k s).2 ha) ((sent_refused k s).trans hr)
  have hloop := run_loop .sendFetch (sent · s) 2 (n := n) fun k hk =>
    (hbyte k).trans (congrArg _ (if_pos (by omega)))
  have hlast := (hbyte n).trans (congrArg _ (if_neg (by omega)))
  exact runSteps_trans (runSteps_trans hloop hlast) (run_sendCrc ((alone_sent (n + 1) s).2 ha))

/-- What a run leaves behind that has sent `k` bytes and the CRC bytes and goes on at `p`. -/
theorem pass_sent (p : Pos) (j k : Nat) (s : State) :
    (pass p j (xfers [0xFF, 0xFF] (sent k s))).trace = s.trace ++
        (List.range k).flatMap (fun i =>
          let a := bufferAddress (512 * s.op.blocksDone.toNat + i) s
          [.mr a (memByte a s), .x s.bus.csAsserted (memByte a s) (misoAt i s)]) ++
        exchanges s.bus.csAsserted k [0xFF, 0xFF] s ∧
      (pass p j (xfers [0xFF, 0xFF] (sent k s))).env.drawn = s.env.drawn + (k + 2) ∧
      (pass p j (xfers [0xFF, 0xFF] (sent k s))).mem = s.mem ∧
      (pass p j (xfers [0xFF, 0xFF] (sent k s))).op = s.op ∧
      (pass p j (xfers [0xFF, 0xFF] (sent k s))).bus = s.bus := by
  refine ⟨?_, by simp [Nat.add_assoc], by simp, by simp, by simp⟩
  have hcrc : exchanges s.bus.csAsserted 0 [0xFF, 0xFF] (sent k s) = exchanges s.bus.csAsserted k [0xFF, 0xFF] s := by
    simp only [exchanges, misoAt_sent, Nat.zero_add]
  rw [pass_trace, trace_xfers, trace_sent, sent_bus, hcrc]
  rfl

/-- Settles O43: the token rows, the sent block, CsAssert and the filler. -/
theorem tokensComplete : Obligations.TokensComplete := by
  unfold Obligations.TokensComplete
  intro s
  refine ⟨⟨_, rfl, rfl, rfl⟩, ⟨_, rfl, rfl, rfl⟩, ⟨_, rfl, rfl, rfl⟩, ⟨_, rfl, rfl, rfl⟩, ⟨_, rfl, rfl, rfl⟩,
    fun hv hfa hpos hk => ?_, fun hv hh hpos => ?_, fun hv hh hpos => ?_⟩
  · obtain ⟨ha, hr⟩ := alone_of_framerAlone hv hfa
    have hrun := run_sendBlock (n := 511) rfl ha hr
    rw [pass_self hpos hk] at hrun
    exact ⟨_, hrun, rfl, pass_sent _ _ 512 s⟩
  · obtain hpos | hpos := hpos <;> rw [step_at ⟨hv, hh⟩ hpos rfl, primitive, hpos]
    · exact ⟨_, rfl, trace_csAssert s, rfl, fun _ => rfl, nofun, rfl, rfl, rfl⟩
    · exact ⟨_, rfl, trace_csAssert s, rfl, nofun, fun _ => rfl, rfl, rfl, rfl⟩
  · rw [step_at ⟨hv, hh⟩ hpos rfl, primitive, hpos]
    exact ⟨_, rfl, trace_xfer_exchanges 0xFF s, rfl, rfl, rfl, rfl⟩

end Sys2Proof.Proofs
end


section
/-! SUPPORT. The invariant at reset (O53), and a state with the invariant whose next state has it no longer (O54). -/

namespace Sys2Proof.Proofs
open Sys2Proof.Machine Sys2Proof.Laws

/-- Settles O53: State.reset is one state, on which the three rules compute. -/
theorem resetMeetsInv : Obligations.ResetMeetsInv := by
  unfold Obligations.ResetMeetsInv
  decide

/-- A READ of one block in Ready at its call of CMD17, with CMD0's bytes in FRAME: `frameReady` asks for one of the 14 frames,
not for the frame of the form that is called. -/
def readWithCmd0Frame : State :=
  { State.reset with
    initState := .ready
    geom := { State.reset.geom with geomValid := true }
    op := { State.reset.op with busy := true, latOp := 0x2, latLen := 512 }
    cmd := { State.reset.cmd with frame := #v[0x40, 0, 0, 0, 0, Config.cmd0Crc] }
    seq := { State.reset.seq with pos := .cmdIssue, form := .cmd17 } }

theorem readWithCmd0Frame_inv : Inv readWithCmd0Frame = true := by decide

/-- The step runs the frame it meets, so SendCommand is called for CMD0's form. -/
theorem step_readWithCmd0Frame :
    step readWithCmd0Frame = .next (beginCommand .cmd0 0 Config.cmd0Crc readWithCmd0Frame) := rfl

/-- CMD0 is INIT's frame, and a READ runs. -/
theorem readWithCmd0Frame_leaves_inv : Inv (beginCommand .cmd0 0 Config.cmd0Crc readWithCmd0Frame) = false := by decide

/-- Refutes O54: Inv lets FRAME hold another form's frame where SendCommand is called. In a READ at its call of CMD17 with
CMD0's frame in FRAME, the step calls CMD0, after which the form no longer fits the operation. -/
theorem not_stepKeepsInv : ¬ Obligations.StepKeepsInv := by
  unfold Obligations.StepKeepsInv
  intro h
  have hnext := (h _ _ readWithCmd0Frame_inv step_readWithCmd0Frame).1
  rw [readWithCmd0Frame_leaves_inv] at hnext
  contradiction

end Sys2Proof.Proofs
end


section
/-! SUPPORT. One step of the whole machine: at most one event, and one byte of host memory at most (O55, O58 and O60). -/

namespace Sys2Proof.Proofs
open Sys2Proof.Machine Sys2Proof.Laws

/-! ### The effect of a step outside the block's registers -/

/-- From `s` to `t` nothing, or one event, or one byte of a received block has left the block. -/
inductive ActsOnce (s t : State) : Prop where
  | silent (htrace : t.traceRev = s.traceRev) (hbus : t.bus = s.bus) (hmem : t.mem = s.mem)
  | event (e : Event) (htrace : t.traceRev = e :: s.traceRev)
      (hcs : t.bus.csAsserted ≠ s.bus.csAsserted → e = .cs t.bus.csAsserted)
      (hclk : t.bus.clockHz ≠ s.bus.clockHz → ∃ hz, e = .clk hz ∧ t.bus.clockHz = some hz) (hmem : t.mem = s.mem)
  | stores (hpos : s.seq.pos = .recvStore) (htrace : t.traceRev = .mw (blockByteAddress s) s.seq.datum :: s.traceRev)
      (hbus : t.bus = s.bus) (hmem : t.mem = memoryWrite s.mem (blockByteAddress s).toNat s.seq.datum)

/-- What follows an action and leaves TRACE, the bus and memory alone keeps its effect. -/
theorem ActsOnce.andThen {s t u : State} (h : ActsOnce s u) (htrace : t.traceRev = u.traceRev) (hbus : t.bus = u.bus)
    (hmem : t.mem = u.mem) : ActsOnce s t := by
  cases h with
  | silent htr hb hm => exact .silent (htrace.trans htr) (hbus.trans hb) (hmem.trans hm)
  | event e htr hcs hclk hm =>
    exact .event e (htrace.trans htr) (by rwa [hbus]) (by rwa [hbus]) (hmem.trans hm)
  | stores hpos htr hb hm => exact .stores hpos (htrace.trans htr) (hbus.trans hb) (hmem.trans hm)

theorem ActsOnce.andControl {s t u : State} (h : ActsOnce s u) (hw : ControlWrites u t) : ActsOnce s t :=
  h.andThen hw.traceRev hw.bus hw.mem

section
variable (s : State)

theorem actsOnce_control {t : State} (h : ControlWrites s t) : ActsOnce s t := .silent h.traceRev h.bus h.mem

theorem actsOnce_exchange (m b : Byte) : ActsOnce s (exchange m b s) :=
  .event _ rfl (absurd rfl) (absurd rfl) rfl

theorem actsOnce_xfer (m : Byte) : ActsOnce s (xfer m s) := actsOnce_exchange s m (nextMiso s)

theorem actsOnce_setClock (hz : Word) : ActsOnce s (setClock hz s) :=
  .event _ rfl (absurd rfl) (fun _ => ⟨hz, rfl, rfl⟩) rfl

theorem actsOnce_memRead (a : Word) : ActsOnce s (memRead a s) := .event _ rfl (absurd rfl) (absurd rfl) rfl

theorem actsOnce_sleep (ms : Word) : ActsOnce s (sleep ms s) := by
  by_cases h : ms = 0
  · exact .silent (if_pos h) rfl rfl
  · exact .event (.sleep ms) (if_neg h) (absurd rfl) (absurd rfl) rfl

theorem actsOnce_csAssert : ActsOnce s (csAssert s) := by
  cases h : s.bus.csAsserted with
  | true => exact .silent (if_pos h) (by rw [csAssert_bus, ← h]) rfl
  | false => exact .event (.cs true) (if_neg (by simp [h])) (fun _ => rfl) (absurd rfl) rfl

theorem actsOnce_csDeassert : ActsOnce s (csDeassert s) := by
  cases h : s.bus.csAsserted with
  | true => exact .event (.cs false) (if_pos h) (fun _ => rfl) (absurd rfl) rfl
  | false => exact .silent (if_neg (by simp [h])) (by rw [csDeassert_bus, ← h]) rfl

end

/-! ### The framer's turns -/

theorem actsOnce_stepCmdTrail (s : State) : ActsOnce s (stepCmdTrail s) := by
  have hcap : ControlWrites (xfer 0xFF s) (captureByte (nextMiso s) (xfer 0xFF s)) := by
    unfold captureByte
    split <;> rfl
  refine (actsOnce_xfer s 0xFF).andControl (hcap.trans ?_)
  exact iteInduction (fun _ => rfl) fun _ => controlWrites_afterTrailing _

theorem actsOnce_stepRecvData (s : State) : ActsOnce s (stepRecvData s) := by
  unfold stepRecvData
  dsimp only
  split
  · exact iteInduction (fun _ => (actsOnce_xfer s 0xFF).andThen rfl rfl rfl)
      fun _ => (actsOnce_xfer s 0xFF).andThen rfl rfl rfl
  · exact (actsOnce_xfer s 0xFF).andThen rfl rfl rfl

theorem actsOnce_stepRecvStore {s t : State} (hpos : s.seq.pos = .recvStore) (h : stepRecvStore s = .next t) :
    ActsOnce s t := by
  unfold stepRecvStore at h
  dsimp only at h
  repeat' split at h
  all_goals cases h
  · exact .stores hpos rfl rfl rfl
  · exact .stores hpos rfl rfl rfl

theorem actsOnce_stepSendFetch {s t : State} (h : stepSendFetch s = .next t) : ActsOnce s t := by
  unfold stepSendFetch at h
  split at h <;> cases h
  exact (actsOnce_memRead s _).andControl rfl

theorem actsOnce_primitive {s t : State} (h : primitive s = .next t) : ActsOnce s t := by
  have hxfer := fun {m t} => (actsOnce_xfer s m).andControl (t := t)
  have hsleep := fun {ms t} => (actsOnce_sleep s ms).andControl (t := t)
  have hdeassert := fun {t} => (actsOnce_csDeassert s).andControl (t := t)
  unfold primitive at h
  cases hpos : s.seq.pos <;> rw [hpos] at h
  case recvStore => exact actsOnce_stepRecvStore hpos h
  case sendFetch => exact actsOnce_stepSendFetch h
  all_goals cases h
  case cmdTrail => exact actsOnce_stepCmdTrail s
  case recvData => exact actsOnce_stepRecvData s
  case idle | cmd0Idle | voltageOk | readyDone | finish => exact actsOnce_control s rfl
  case initClock | readyClock => exact (actsOnce_setClock s _).andControl rfl
  case recvAssert | txAssert => exact (actsOnce_csAssert s).andControl rfl
  case cmdRelease | cmdTimeout | recvRelease | endRelease | abortRelease | retryDeassert => exact hdeassert rfl
  case cmdSkip | recvToken | stopFiller | endReleaseClock | retryClock => exact hxfer rfl
  case cmdReleaseClock | cmdTimeoutClock => exact hxfer (controlWrites_endCommand _ _)
  case recvReleaseClock => exact hxfer (controlWrites_recvDone _)
  case busyPoll => exact hxfer (controlWrites_busyDone _)
  case sendResponse => exact hxfer (returnWrites_raise _ _).control
  case acmdSleep => exact hsleep (controlWrites_nextIteration _)
  case retrySleep => exact hsleep (controlWrites_beginAttempt _)
  case initDeassert => exact iteInduction (fun _ => hdeassert rfl) fun _ => hdeassert (controlWrites_beginAttempt _)
  case powerup => exact iteInduction (fun _ => hxfer rfl) fun _ => hxfer (controlWrites_beginAttempt _)
  case cmdFrame =>
    exact iteInduction (fun _ => hxfer rfl) fun _ => iteInduction (fun _ => hxfer rfl) fun _ => hxfer rfl
  case cmdPoll | recvCrc | sendData | sendCrc => exact iteInduction (fun _ => hxfer rfl) fun _ => hxfer rfl
  case recvTokenSleep => exact iteInduction (fun _ => hsleep rfl) fun _ => hsleep (controlWrites_recvTimeout _)
  case busySleep => exact iteInduction (fun _ => hsleep rfl) fun _ => hsleep (returnWrites_raise _ _).control
  case abortClock =>
    exact iteInduction (fun _ => hxfer (returnWrites_attemptFailed _).control) fun _ => hxfer rfl

theorem actsOnce_exec_fetched {s t : State} {i : Instr} (hi : fetched s = some i) (h : exec i s = .next t) :
    ActsOnce s t := by
  obtain ⟨-, f, hf⟩ | ⟨-, low, rfl⟩ | ⟨-, rfl⟩ | ⟨-, rfl | rfl | rfl⟩ | ⟨-, ⟨up, rfl⟩ | ⟨d, rfl⟩⟩ | ⟨-, rfl⟩ :=
    fetched_cases hi
  case inl =>
    obtain ⟨arg, crc, he⟩ := exec_of_frame hf s
    rw [he] at h
    cases h
    exact (actsOnce_csAssert s).andThen rfl rfl rfl
  all_goals cases h
  · exact (actsOnce_exchange s _ _).andControl (controlWrites_afterR1 _ _)
  · exact (actsOnce_exchange s _ _).andControl rfl
  · exact (actsOnce_xfer s _).andControl rfl
  · exact (actsOnce_xfer s _).andControl rfl
  · exact (actsOnce_xfer s _).andControl rfl
  · exact (actsOnce_exchange s _ _).andControl (controlWrites_blockAccepted _)
  · exact (actsOnce_exchange s _ _).andControl (returnWrites_raise _ _).control
  · exact (actsOnce_exchange s _ _).andControl rfl

theorem actsOnce_framerTurn {s t : State} (h : framerTurn s = .next t) : ActsOnce s t := by
  cases hi : fetched s with
  | some i => exact actsOnce_exec_fetched hi (framerTurn_of_fetched s i hi ▸ h)
  | none => exact actsOnce_primitive (framerTurn_of_primitive s hi ▸ h)

/-! ### The host's turns -/

/-- A host write leaves TRACE, the bus and memory alone, and a running operation its position and its addresses. -/
structure HostWriteKeeps (s t : State) : Prop where
  traceRev : t.traceRev = s.traceRev
  bus : t.bus = s.bus
  mem : t.mem = s.mem
  running : s.op.busy = true → t.seq = s.seq ∧ blockByteAddress t = blockByteAddress s

theorem hostWriteKeeps_writeReg (r : Reg) (v : Word) (s : State) : HostWriteKeeps s (writeReg r v s) := by
  cases r <;> exact ⟨rfl, rfl, rfl, fun _ => ⟨rfl, rfl⟩⟩

theorem hostWriteKeeps_hostCommand (v : Word) (s : State) : HostWriteKeeps s (hostCommand v (dispatchOf v) s) := by
  cases hb : s.op.busy with
  | true =>
    rw [hostCommand_of_busy _ _ _ hb]
    exact ⟨rfl, rfl, rfl, fun _ => ⟨rfl, rfl⟩⟩
  | false =>
    rw [hostCommand_of_idle _ _ _ hb]
    have hw := dispatchWrites_dispatchOf v (acceptCommand v s)
    unfold DispatchWrites at hw
    rw [hw]
    exact ⟨rfl, rfl, rfl, fun h => by simp [hb] at h⟩

theorem hostWriteKeeps_hostWrite {bytes offset : Nat} {v : Word} {s t : State}
    (h : hostWrite bytes offset v s = .next t) : HostWriteKeeps s t := by
  obtain rfl | ⟨r, rfl⟩ := hostWrite_cases h
  · exact hostWriteKeeps_hostCommand v s
  · exact hostWriteKeeps_writeReg r v s

/-- A framer's turn in the same step as a host write made in a running operation (R50). -/
theorem ActsOnce.afterHostWrite {s t u : State} (hb : s.op.busy = true) (hu : HostWriteKeeps s u) (h : ActsOnce u t) :
    ActsOnce s t := by
  obtain ⟨htr, hbus, hmem, hrun⟩ := hu
  obtain ⟨hseq, haddr⟩ := hrun hb
  cases h with
  | silent htr' hbus' hmem' => exact .silent (htr'.trans htr) (hbus'.trans hbus) (hmem'.trans hmem)
  | event e htr' hcs hclk hmem' =>
    exact .event e (htr ▸ htr') (hbus ▸ hcs) (hbus ▸ hclk) (hmem'.trans hmem)
  | stores hpos htr' hbus' hmem' =>
    rw [haddr, hseq] at htr' hmem'
    exact .stores (hseq ▸ hpos) (htr ▸ htr') (hbus'.trans hbus) (hmem ▸ hmem')

theorem actsOnce_hostWriteWith {bytes offset : Nat} {v : Word} {s t : State}
    (h : hostWriteWith bytes offset v s = .next t) : ActsOnce s t := by
  unfold hostWriteWith at h
  split at h
  case h_2 | h_3 => cases h
  case h_1 u hu =>
    have hkeeps := hostWriteKeeps_hostWrite hu
    split at h
    case isTrue hb => exact (actsOnce_framerTurn h).afterHostWrite hb hkeeps
    case isFalse =>
      cases h
      exact .silent hkeeps.traceRev hkeeps.bus hkeeps.mem

/-- Every host action but reset and the host's own write of its memory. -/
theorem actsOnce_hostTurn {a : HostAction} {s t : State} (hreset : a ≠ .reset) (hwrite : ∀ x v, a ≠ .memWrite x v)
    (h : hostTurn a s = .next t) : ActsOnce s t := by
  cases a with
  | tick => exact actsOnce_framerTurn h
  | write bytes offset v =>
    have hkeeps := hostWriteKeeps_hostWrite h
    exact .silent hkeeps.traceRev hkeeps.bus hkeeps.mem
  | writeWith bytes offset v => exact actsOnce_hostWriteWith h
  | read bytes offset =>
    simp only [hostTurn, hostRead] at h
    split at h <;> cases h
    exact .silent rfl rfl rfl
  | reset => exact absurd rfl hreset
  | memWrite addr v => exact absurd rfl (hwrite addr v)
  | waitDone | memRead addr =>
    cases h
    exact .silent rfl rfl rfl

/-- A step resets the block, or writes host memory for the host, or acts once. -/
theorem step_cases {s t : State} (h : step s = .next t) :
    ActsOnce s t ∨ (∃ rest, s.env.host = .reset :: rest ∧ t = applyReset (popHost s)) ∨
      ∃ x v rest, s.env.host = .memWrite x v :: rest ∧ t = { popHost s with mem := memoryWrite s.mem x.toNat v } := by
  cases hv : s.cfg.valid with
  | false => rw [step_of_invalid s hv] at h; cases h
  | true =>
    rw [step_of_valid s hv] at h
    cases hh : s.env.host with
    | nil => exact .inl (actsOnce_framerTurn (turn_alone s hh ▸ h))
    | cons a rest =>
      by_cases hwait : a = .waitDone
      · subst hwait
        rw [turn_wait s rest hh] at h
        split at h
        · cases h
          exact .inl (.silent rfl rfl rfl)
        · exact .inl (actsOnce_framerTurn h)
      · rw [turn_action s a rest hh hwait] at h
        by_cases hreset : a = .reset
        · subst hreset
          cases h
          exact .inr (.inl ⟨rest, rfl, rfl⟩)
        by_cases hwrite : ∃ x v, a = .memWrite x v
        · obtain ⟨x, v, rfl⟩ := hwrite
          cases h
          exact .inr (.inr ⟨x, v, rest, rfl, rfl⟩)
        · have hacts := actsOnce_hostTurn (s := popHost s) hreset (fun x v e => hwrite ⟨x, v, e⟩) h
          cases hacts with
          | silent htr hbus hmem => exact .inl (.silent htr hbus hmem)
          | event e htr hcs hclk hmem => exact .inl (.event e htr hcs hclk hmem)
          | stores hpos htr hbus hmem => exact .inl (.stores hpos htr hbus hmem)

/-! ### The rules -/

/-- Settles O60, by the effect of a step; the host's write of its memory is no event of the block. -/
theorem traceGrowsByOneEvent : Obligations.TraceGrowsByOneEvent := by
  unfold Obligations.TraceGrowsByOneEvent
  intro s t hreset h
  obtain hacts | ⟨rest, hh, -⟩ | ⟨x, v, rest, -, rfl⟩ := step_cases h
  · cases hacts with
    | silent htr hbus hmem => exact .inl ⟨htr, hbus⟩
    | event e htr hcs hclk hmem => exact .inr ⟨e, htr, hcs, hclk⟩
    | stores hpos htr hbus hmem => exact .inr ⟨_, htr, fun h => absurd (by rw [hbus]) h, fun h => absurd (by rw [hbus]) h⟩
  · exact absurd hh (hreset rest)
  · exact .inl ⟨rfl, rfl⟩

/-- Settles O55: memory changes only by single writes, which keep the canonical form. -/
theorem stepKeepsMemoryCanonical : Obligations.StepKeepsMemoryCanonical := by
  unfold Obligations.StepKeepsMemoryCanonical
  intro s t hwf h
  obtain hacts | ⟨rest, -, rfl⟩ | ⟨x, v, rest, -, rfl⟩ := step_cases h
  · cases hacts with
    | silent htr hbus hmem | event e htr hcs hclk hmem => rwa [hmem]
    | stores hpos htr hbus hmem =>
      rw [hmem]
      exact memory_wf_write _ _ _ hwf
  · exact hwf
  · exact memory_wf_write _ _ _ hwf

/-- The invariant's rules (R31, R172, R177, R322, R210, R272 to R275, R262, R142). -/
theorem inv_iff (s : State) : Machine.Inv s = true ↔ busyAgrees s = true ∧ csAgrees s = true ∧ positionFits s = true ∧
    readyAgrees s = true ∧ readyFits s = true ∧ attemptBounded s = true ∧ blockBounded s = true ∧
    byteBounded s = true ∧ frameReady s = true := by
  simp only [Machine.Inv, Bool.and_eq_true, and_assoc]

theorem lengthOk_iff (s : State) : lengthOk s = true ↔ s.op.latLen ≠ 0 ∧ s.op.latLen.toNat % 512 = 0 := by
  simp [lengthOk, Config.blockSize]

/-- Where a sector's byte is stored, the invariant says that a READ runs and that the byte is one of its buffer's. -/
theorem inBuffer_of_inv_recvStore {s : State} (hinv : Machine.Inv s = true) (hpos : s.seq.pos = .recvStore) :
    s.op.busy = true ∧ s.op.latOp = 0x2 ∧ inBuffer (blockByteAddress s) s := by
  obtain ⟨hbusy, -, hfits, -, -, -, hblocks, hbytes, -⟩ := (inv_iff s).1 hinv
  have hbyte : s.seq.k < 512 := by
    unfold byteBounded at hbytes
    rw [hpos] at hbytes
    exact of_decide_eq_true hbytes
  obtain ⟨hop, hform⟩ : s.op.latOp = 0x2 ∧ s.seq.form ≠ .cmd12 := by
    unfold positionFits at hfits
    rw [hpos] at hfits
    generalize s.op.latOp = op at hfits ⊢
    cases hf : s.seq.form <;> simp [hf, posOfInit, posOfRecv, posOfWrite, posOfSend, formOp] at hfits ⊢
    all_goals exact hfits
  obtain ⟨hlen, hblock⟩ : lengthOk s = true ∧ s.op.blocksDone.toNat < blockCount s := by
    unfold blockBounded blockPending at hblocks
    rw [hpos, hop] at hblocks
    obtain ⟨hlen, hblock⟩ := Bool.and_eq_true_iff.1 hblocks
    have hpending : (s.seq.form != .cmd12) = true := bne_iff_ne.2 hform
    rw [hpending] at hblock
    exact ⟨hlen, of_decide_eq_true hblock⟩
  have hmod := ((lengthOk_iff s).1 hlen).2
  simp only [blockCount, Config.blockSize] at hblock
  refine ⟨by simpa [busyAgrees, hpos] using hbusy, hop, 512 * s.op.blocksDone.toNat + s.seq.k, ?_, rfl⟩
  omega

/-- Settles O58: the one step that writes host memory is a store of a received byte. -/
theorem memoryWrittenOnlyInReadBuffer : Obligations.MemoryWrittenOnlyInReadBuffer := by
  unfold Obligations.MemoryWrittenOnlyInReadBuffer
  intro s t a hinv hwf hhost h hout
  unfold memByte
  obtain hacts | ⟨rest, -, rfl⟩ | ⟨x, v, rest, hh, -⟩ := step_cases h
  · cases hacts with
    | silent htr hbus hmem | event e htr hcs hclk hmem => rw [hmem]
    | stores hpos htr hbus hmem =>
      obtain ⟨hbusy, hop, hin⟩ := inBuffer_of_inv_recvStore hinv hpos
      have hne : a ≠ blockByteAddress s := fun e => hout ⟨hbusy, hop, e ▸ hin⟩
      rw [hmem]
      exact memByte_memWrite_other _ _ s.seq.datum s hwf hne
  · rfl
  · exact absurd hh (hhost x v rest)

end Sys2Proof.Proofs
end


section
/-! SUPPORT. The framer always has a step (O56). -/

namespace Sys2Proof.Proofs
open Sys2Proof.Machine Sys2Proof.Laws

/-- No row that the framer meets is refused or faults. -/
theorem exec_fetched_next {s : State} {i : Instr} (hi : fetched s = some i) : ∃ t, exec i s = .next t := by
  obtain ⟨-, f, hf⟩ | ⟨-, low, rfl⟩ | ⟨-, rfl⟩ | ⟨-, rfl | rfl | rfl⟩ | ⟨-, ⟨up, rfl⟩ | ⟨d, rfl⟩⟩ | ⟨-, rfl⟩ :=
    fetched_cases hi
  case inl =>
    obtain ⟨arg, crc, he⟩ := exec_of_frame hf s
    exact ⟨_, he⟩
  all_goals exact ⟨_, rfl⟩

/-- A primitive is refused only where a frame or a token must go out, and faults only where host memory refuses. -/
theorem primitive_next {s : State} (hr : s.env.refused = []) (hissue : s.seq.pos ≠ .cmdIssue)
    (htoken : s.seq.pos ≠ .txToken) : ∃ t, primitive s = .next t := by
  have hadmits := memAdmits_of_none hr (blockByteAddress s)
  unfold primitive
  cases hpos : s.seq.pos
  case cmdIssue => exact absurd hpos hissue
  case txToken => exact absurd hpos htoken
  case recvStore => exact ⟨_, if_pos hadmits⟩
  case sendFetch => exact ⟨_, if_pos hadmits⟩
  all_goals exact ⟨_, rfl⟩

/-- Where a frame or a token must go out, there is one. -/
def RowReady (s : State) : Prop := s.seq.pos = .cmdIssue ∨ s.seq.pos = .txToken → fetched s ≠ none

theorem step_next {s : State} (ha : Alone s) (hr : s.env.refused = []) (hrow : RowReady s) : ∃ t, step s = .next t := by
  cases hi : fetched s with
  | some i =>
    rw [step_exec ha hi]
    exact exec_fetched_next hi
  | none =>
    rw [step_primitive ha hi]
    exact primitive_next hr (fun hp => hrow (.inl hp) hi) (fun hp => hrow (.inr hp) hi)

/-- R128: each of the three tokens the block sends is a row. -/
theorem fetched_txToken {s : State} (hpos : s.seq.pos = .txToken)
    (htok : s.seq.tok = 0xFE ∨ s.seq.tok = 0xFC ∨ s.seq.tok = 0xFD) : fetched s ≠ none := by
  have hdec : fetched s = (decodeTxToken s.seq.tok).toOption := by
    unfold fetched
    rw [hpos]
  rw [hdec]
  obtain h | h | h := htok <;> rw [h] <;> decide

/-- What the position says of a write's form and token (R264, R267, R274, R275). -/
def SendFits (q : Seq) : Prop :=
  (posOfWrite q.pos = true → (q.form = .cmd24 ∧ q.tok = 0xFE) ∨ (q.form = .cmd25 ∧ (q.tok = 0xFC ∨ q.tok = 0xFD))) ∧
    (posOfSend q.pos = true → q.tok ≠ 0xFD)

theorem sendFits_of_inv {s : State} (hinv : Machine.Inv s = true) : SendFits s.seq := by
  obtain ⟨-, -, hfits, -⟩ := (inv_iff s).1 hinv
  by_cases hidle : s.seq.pos = .idle
  · simp [SendFits, hidle, posOfWrite, posOfSend]
  simp only [positionFits, Bool.or_eq_true, Bool.and_eq_true, beq_iff_eq, bne_iff_ne, Bool.not_eq_true'] at hfits
  obtain ⟨⟨⟨⟨-, hwrite⟩, hsend⟩, -⟩, -⟩ := hfits.resolve_left hidle
  refine ⟨fun hp => ?_, fun hp => hsend.resolve_left (by simp [hp])⟩
  simpa [hp] using hwrite

theorem rowReady_of_inv {s : State} (hinv : Machine.Inv s = true) : RowReady s := by
  have hframe : frameReady s = true := by
    obtain ⟨-, -, -, -, -, -, -, -, h⟩ := (inv_iff s).1 hinv
    exact h
  rintro (hpos | hpos)
  · intro hnone
    simp [frameReady, hpos, hnone] at hframe
  · have hwrite := (sendFits_of_inv hinv).1 (by rw [hpos]; rfl)
    exact fetched_txToken hpos (by tauto)

/-- Settles O56: where a frame or a token must go out, the invariant says that it is one of the table's. -/
theorem framerNeverStops : Obligations.FramerNeverStops := by
  unfold Obligations.FramerNeverStops
  intro s hinv hv halone
  obtain ⟨ha, hr⟩ := alone_of_framerAlone hv halone
  exact step_next ha hr (rowReady_of_inv hinv)

end Sys2Proof.Proofs
end


section
/-! SUPPORT. Every operation ends (O57). The framer's position, its counters, the attempt count and blocks_done bound the
steps that are left: each step of a running operation makes the bound smaller, whatever the card answers. -/

namespace Sys2Proof.Proofs
open Sys2Proof.Machine Sys2Proof.Laws

/-! ### The bound -/

section
variable (c : Config.Params) (n : Nat)

/-- From the call of SendCommand to its return (R172 to R174). -/
def commandSteps : Nat := c.r1PollBudget.toNat + 17

/-- RecvDataBlock, from CsAssert to its return (R262). -/
def receiveSteps : Nat := 2 * c.tokenPollBudget.toNat + 1034

/-- SendDataBlock or SendStopToken with the busy wait, from CsAssert to the end (R264, R266, R267). -/
def sendSteps : Nat := 2 * c.busyPollBudget.toNat + 1040

/-- After CMD9: the CSD block, CMD16 and the end of INIT (R234 to R236). -/
def csdSteps : Nat := receiveSteps c + commandSteps c + 6

/-- From VoltageOk on (R219). -/
def voltageSteps : Nat := csdSteps c + commandSteps c + 1

/-- After ACMD41 in iteration `i` of the loop; an iteration calls SendCommand at most three times (R216, R217). -/
def loopSteps (i : Nat) : Nat :=
  voltageSteps c + commandSteps c + (3 * commandSteps c + 1) * (c.acmd41Budget.toNat - i)

/-- After CMD8 (R215). -/
def probeSteps : Nat := 3 * commandSteps c + loopSteps c 0

/-- An attempt of INIT, from CMD0 on (R213). -/
def attemptSteps : Nat := 2 * commandSteps c + probeSteps c + 1

/-- One block of a transfer of more than one, or what follows the last. -/
def blockSteps : Nat := receiveSteps c + sendSteps c + commandSteps c + 7

/-- The blocks of a transfer after `b` are done; a count beyond `n` may wrap to 0. -/
def blocksLeft (b : Nat) : Nat := if b < n then n - b else n + 1

/-- What may follow the return from block `b` of a transfer. -/
def transferSteps (b : Nat) : Nat := blockSteps c * (blocksLeft n b + 1)

/-- After the return of a SendCommand of form `f`, in iteration `i` of INIT's loop and with `b` blocks done. -/
def afterCommand (f : Form) (i b : Nat) : Nat :=
  match f with
  | .cmd0 => commandSteps c + probeSteps c + 1
  | .cmd8 => probeSteps c
  | .cmd58Loop => 2 * commandSteps c + loopSteps c i
  | .cmd55 => commandSteps c + loopSteps c i
  | .acmd41V1 | .acmd41V2 => loopSteps c i
  | .cmd58Final => voltageSteps c
  | .cmd9 => csdSteps c
  | .cmd16 | .cmd12 => 6
  | .cmd17 | .cmd18 => receiveSteps c + transferSteps c n b
  | .cmd24 => sendSteps c
  | .cmd25 => sendSteps c + transferSteps c n b

/-- After RecvDataBlock's return to the caller of form `f`. -/
def afterReceive (f : Form) (b : Nat) : Nat := if f = .cmd9 then commandSteps c + 6 else transferSteps c n b

/-- After the busy wait, or the return of SendDataBlock, with token `t`. -/
def afterSend (t : Byte) (b : Nat) : Nat := if t = 0xFC then transferSteps c n b else 0

/-- The steps left at a position, the next attempts of INIT apart. -/
def stepsAt (q : Seq) (b : Nat) : Nat :=
  match q.pos with
  | .idle => 0
  | .finish | .readyDone => 1
  | .retrySleep | .readyClock => 2
  | .retryClock => 3
  | .retryDeassert => 4
  | .abortClock => 5
  | .abortRelease => 6
  | .powerup => c.powerupDummyBytes.toNat - q.k + 1
  | .initDeassert => c.powerupDummyBytes.toNat + 2
  | .initClock => c.powerupDummyBytes.toNat + 3
  | .cmd0Idle => commandSteps c + probeSteps c + 1
  | .acmdSleep => loopSteps c q.iter
  | .voltageOk => voltageSteps c
  | .cmdIssue => commandSteps c + afterCommand c n q.form q.iter b
  | .cmdFrame => c.r1PollBudget.toNat + 10 + (6 - q.k) + afterCommand c n q.form q.iter b
  | .cmdSkip => c.r1PollBudget.toNat + 9 + afterCommand c n q.form q.iter b
  | .cmdPoll => c.r1PollBudget.toNat - q.k + 8 + afterCommand c n q.form q.iter b
  | .cmdTrail => 4 - q.k + 3 + afterCommand c n q.form q.iter b
  | .cmdRelease | .cmdTimeout => 2 + afterCommand c n q.form q.iter b
  | .cmdReleaseClock | .cmdTimeoutClock => 1 + afterCommand c n q.form q.iter b
  | .recvAssert => receiveSteps c + afterReceive c n q.form b
  | .recvToken => 2 * (c.tokenPollBudget.toNat - q.k) + 1033 + afterReceive c n q.form b
  | .recvTokenSleep => 2 * (c.tokenPollBudget.toNat - q.k) + 1032 + afterReceive c n q.form b
  | .recvData => 2 * (512 - q.k) + 7 + afterReceive c n q.form b
  | .recvStore => 2 * (512 - q.k) + 6 + afterReceive c n q.form b
  | .recvCrc => 2 - q.k + 3 + afterReceive c n q.form b
  | .recvRelease => 2 + afterReceive c n q.form b
  | .recvReleaseClock => 1 + afterReceive c n q.form b
  | .txAssert => sendSteps c + afterSend c n q.tok b
  | .txToken => 2 * c.busyPollBudget.toNat + 1039 + afterSend c n q.tok b
  | .sendFetch => 2 * c.busyPollBudget.toNat + 2 * (512 - q.k) + 14 + afterSend c n q.tok b
  | .sendData => 2 * c.busyPollBudget.toNat + 2 * (512 - q.k) + 13 + afterSend c n q.tok b
  | .sendCrc => 2 * c.busyPollBudget.toNat + 10 + (2 - q.k) + afterSend c n q.tok b
  | .sendResponse | .stopFiller => 2 * c.busyPollBudget.toNat + 9 + afterSend c n q.tok b
  | .busyPoll => 2 * (c.busyPollBudget.toNat - q.k) + 8 + afterSend c n q.tok b
  | .busySleep => 2 * (c.busyPollBudget.toNat - q.k) + 7 + afterSend c n q.tok b
  | .endRelease => 3
  | .endReleaseClock => 2

/-- The steps of INIT's attempts after the one in progress (R210). -/
def attemptsLeft (s : State) : Nat := attemptSteps c * (8 - s.op.attempt.toNat)

/-- The steps that are left to a running operation. -/
def stepsLeft (s : State) : Nat := attemptsLeft c s + stepsAt c n s.seq s.op.blocksDone.toNat

theorem loopSteps_pos (i : Nat) : 7 ≤ loopSteps c i := by
  unfold loopSteps voltageSteps csdSteps commandSteps receiveSteps
  omega

theorem loopSteps_succ {i : Nat} (h : i + 1 < c.acmd41Budget.toNat) :
    loopSteps c (i + 1) + 3 * commandSteps c + 1 = loopSteps c i := by
  obtain ⟨d, hd⟩ : ∃ d, c.acmd41Budget.toNat - i = d + 1 := ⟨c.acmd41Budget.toNat - i - 1, by omega⟩
  have hd' : c.acmd41Budget.toNat - (i + 1) = d := by omega
  rw [loopSteps, loopSteps, hd, hd', Nat.mul_succ]
  omega

theorem blockSteps_le_transferSteps (b : Nat) : blockSteps c ≤ transferSteps c n b :=
  Nat.le_mul_of_pos_right _ (Nat.succ_pos _)

/-- The next block is one fewer; a block count mod 2^32 that comes to be below `n` leaves fewer blocks too. -/
theorem transferSteps_succ {b : Word} (hn : n < 2 ^ 32) (h : (b + 1).toNat < n) :
    transferSteps c n (b + 1).toNat + blockSteps c ≤ transferSteps c n b.toNat := by
  have hleft : blocksLeft n (b + 1).toNat + 1 ≤ blocksLeft n b.toNat := by
    have hsucc : (b + 1).toNat = b.toNat + 1 ∨ b.toNat + 1 = 2 ^ 32 := by
      rw [BitVec.toNat_add]
      have hb := b.isLt
      change (b.toNat + 1) % 2 ^ 32 = _ ∨ _
      omega
    unfold blocksLeft
    split <;> split <;> omega
  calc transferSteps c n (b + 1).toNat + blockSteps c
      = blockSteps c * (blocksLeft n (b + 1).toNat + 1 + 1) := rfl
    _ ≤ transferSteps c n b.toNat := Nat.mul_le_mul_left _ (by omega)

end

/-! ### A running operation -/

section
variable {c : Config.Params} {n r : Nat} {s t u : State}

/-- The parameters and the block count are `c` and `n`, the framer runs alone, and an operation is in progress. -/
structure Running (c : Config.Params) (n : Nat) (s : State) : Prop where
  cfg : s.cfg = c
  valid : c.valid = true
  host : s.env.host = []
  refused : s.env.refused = []
  count : blockCount s = n
  busy : s.op.busy = true
  attempt : s.op.attempt.toNat ≤ 8

theorem Running.alone (h : Running c n s) : Alone s := ⟨h.cfg ▸ h.valid, h.host⟩

theorem Running.congr (h : Running c n s) (hcfg : t.cfg = s.cfg) (hhost : t.env.host = s.env.host)
    (hrefused : t.env.refused = s.env.refused) (hop : t.op = s.op) : Running c n t where
  cfg := hcfg.trans h.cfg
  valid := h.valid
  host := hhost.trans h.host
  refused := hrefused.trans h.refused
  count := by rw [← h.count, blockCount, blockCount, hop]
  busy := hop ▸ h.busy
  attempt := hop ▸ h.attempt

/-- The positions before a call of CMD0 that raises the attempt count (R210, R212). -/
def posBeforeAttempt : Pos → Bool
  | .initClock | .initDeassert | .powerup | .retryDeassert | .retryClock | .retrySleep => true
  | _ => false

/-- What the position of a running operation says of CS, the attempt count, FRAME and a write's token. -/
structure Placed (s : State) : Prop where
  started : s.seq.pos ≠ .idle
  released : posCsReleased s.seq.pos = true → s.bus.csAsserted = false
  attempts : posBeforeAttempt s.seq.pos = true → s.op.attempt.toNat < 8
  framed : s.seq.pos = .cmdIssue → ∃ i, fetched s = some i ∧ formOfInstr i = some s.seq.form
  sends : SendFits s.seq

/-- The operation runs on with at most `r` steps left. -/
structure Continues (c : Config.Params) (n r : Nat) (t : State) : Prop where
  running : Running c n t
  placed : Placed t
  bound : stepsLeft c n t ≤ r

theorem Continues.mono {r' : Nat} (h : Continues c n r t) (hle : r ≤ r') : Continues c n r' t :=
  ⟨h.running, h.placed, h.bound.trans hle⟩

/-- The positions of which nothing but the level of CS is asked. -/
def posPlain (p : Pos) : Bool := p != .idle && p != .cmdIssue && !posBeforeAttempt p && !posOfWrite p && !posOfSend p

theorem placed_of_plain (hplain : posPlain t.seq.pos = true)
    (hcs : posCsReleased t.seq.pos = true → t.bus.csAsserted = false) : Placed t := by
  simp only [posPlain, Bool.and_eq_true, bne_iff_ne, Bool.not_eq_true'] at hplain
  obtain ⟨⟨⟨⟨hidle, hissue⟩, hattempt⟩, hwrite⟩, hsend⟩ := hplain
  exact ⟨hidle, hcs, by simp [hattempt], fun h => absurd h hissue, by simp [SendFits, hwrite, hsend]⟩

theorem continues_plain (h : Running c n t) (hplain : posPlain t.seq.pos = true)
    (hcs : posCsReleased t.seq.pos = true → t.bus.csAsserted = false) (hr : stepsLeft c n t ≤ r) : Continues c n r t :=
  ⟨h, placed_of_plain hplain hcs, hr⟩

end

end Sys2Proof.Proofs
end


section
/-! SUPPORT. How the sequencer's functions go on (O57): each leaves a running operation at a position of fewer steps. -/

namespace Sys2Proof.Proofs
open Sys2Proof.Machine Sys2Proof.Laws

/-! ### The frames that a running operation sends -/

/-- The argument with which a running operation calls SendCommand; the transfers' four forms are called by Dispatch. -/
def runArg : Form → Word
  | .cmd8 => Config.cmd8Arg
  | .acmd41V2 => Config.acmd41HcsArg
  | .cmd16 => Config.cmd16Arg
  | _ => 0

/-- The instruction of the frame that `startCommand` builds. -/
def runInstr (f : Form) (crc : Byte) : Instr :=
  match f with
  | .cmd0 => .cmd0
  | .cmd8 => .cmd8
  | .cmd55 => .cmd55 crc
  | .acmd41V1 => .acmd41V1 crc
  | .acmd41V2 => .acmd41V2 crc
  | .cmd58Loop => .cmd58Loop crc
  | .cmd58Final => .cmd58Final crc
  | .cmd9 => .cmd9 crc
  | .cmd16 => .cmd16 crc
  | .cmd17 => .cmd17 0 crc
  | .cmd18 => .cmd18 0 crc
  | .cmd12 => .cmd12 crc
  | .cmd24 => .cmd24 0 crc
  | .cmd25 => .cmd25 0 crc

/-- The frame that `startCommand` builds is met at its position, as the frame of its own form (R142). -/
theorem fetched_startCommand (f : Form) (s : State) :
    ∃ i, fetched (startCommand f (runArg f) s) = some i ∧ formOfInstr i = some f := by
  have hfetched : fetched (startCommand f (runArg f) s) = (decode (.frameOut (f = .cmd58Final)) (.frame (frameWord
      (0x40 ||| (formIndex f).setWidth 8) (runArg f) (crcByte s.cfg (formIndex f) (runArg f))))).toOption := by
    rw [← frameAsWord_frameBytes]
    rfl
  have hdec : ∀ crc, decode _ _ = _ := fun crc => decodeEncodeAgree (runInstr f crc) (by cases f <;> rfl)
  refine ⟨runInstr f (crcByte s.cfg (formIndex f) (runArg f)), ?_, by cases f <;> rfl⟩
  rw [hfetched]
  cases f <;> exact congrArg Except.toOption (hdec _)

/-! ### The ends of an operation and of an attempt -/

section
variable {c : Config.Params} {n : Nat} {s : State}

theorem attemptsLeft_congr {t : State} (hop : t.op = s.op) : attemptsLeft c t = attemptsLeft c s := by
  rw [attemptsLeft, attemptsLeft, hop]

theorem continues_raise (h : Running c n s) (kind : ErrCode) : Continues c n (attemptsLeft c s + 6) (raise kind s) := by
  obtain ⟨hcs, he⟩ | ⟨hcs, he⟩ := raise_cases kind s <;> rw [he]
  · exact continues_plain (h.congr rfl rfl rfl rfl) rfl nofun le_rfl
  · exact continues_plain (h.congr rfl rfl rfl rfl) rfl (fun _ => hcs) (show attemptsLeft c s + 1 ≤ _ by omega)

theorem continues_attemptFailed (h : Running c n s) (hcs : s.bus.csAsserted = false) :
    Continues c n (attemptsLeft c s + 4) (attemptFailed s) := by
  by_cases h8 : s.op.attempt = Config.maxInitAttempts
  · rw [attemptFailed_last s h8, raise_of_released _ { s with initState := .fail } hcs]
    exact continues_plain (h.congr rfl rfl rfl rfl) rfl (fun _ => hcs) (show attemptsLeft c s + 1 ≤ _ by omega)
  · rw [attemptFailed_more s h8]
    have hlt : s.op.attempt.toNat < 8 :=
      lt_of_le_of_ne h.attempt fun e => h8 (BitVec.eq_of_toNat_eq e)
    exact ⟨h.congr rfl rfl rfl rfl, ⟨nofun, fun _ => hcs, fun _ => hlt, nofun, nofun, nofun⟩, le_rfl⟩

theorem continues_initFail (h : Running c n s) : Continues c n (attemptsLeft c s + 6) (initFail s) := by
  cases hcs : s.bus.csAsserted with
  | true =>
    rw [initFail_of_asserted s hcs]
    exact continues_plain (h.congr rfl rfl rfl rfl) rfl nofun le_rfl
  | false =>
    rw [initFail_of_released s hcs]
    exact (continues_attemptFailed h hcs).mono (by omega)

/-! ### The calls of SendCommand -/

theorem continues_startCommand (h : Running c n s) (hcs : s.bus.csAsserted = false) (f : Form) :
    Continues c n (attemptsLeft c s + (commandSteps c + afterCommand c n f s.seq.iter s.op.blocksDone.toNat))
      (startCommand f (runArg f) s) :=
  ⟨h.congr rfl rfl rfl rfl, ⟨nofun, fun _ => hcs, nofun, fun _ => fetched_startCommand f s, nofun, nofun⟩, le_rfl⟩

/-- The next attempt is one of those that were left (R210). -/
theorem continues_beginAttempt (h : Running c n s) (hcs : s.bus.csAsserted = false) (h8 : s.op.attempt.toNat < 8) :
    Continues c n (attemptsLeft c s + 0) (beginAttempt s) := by
  have hsucc : (s.op.attempt + 1).toNat = s.op.attempt.toNat + 1 := by
    rw [BitVec.toNat_add]
    exact Nat.mod_eq_of_lt (by change _ + 1 < 16; omega)
  have hnext : Running c n { s with op := { s.op with attempt := s.op.attempt + 1 }, initState := .reset } :=
    ⟨h.cfg, h.valid, h.host, h.refused, h.count, h.busy, by change (s.op.attempt + 1).toNat ≤ 8; omega⟩
  refine (continues_startCommand hnext hcs .cmd0).mono ?_
  obtain ⟨d, hd⟩ : ∃ d, 8 - s.op.attempt.toNat = d + 1 := ⟨8 - s.op.attempt.toNat - 1, by omega⟩
  have hd' : 8 - (s.op.attempt.toNat + 1) = d := by omega
  simp only [attemptsLeft, afterCommand, hsucc, hd, hd', Nat.mul_succ]
  unfold attemptSteps
  omega

/-- The next iteration of the ACMD41 loop, or Fail when its budget is spent (R216, R217). -/
theorem continues_nextIteration (h : Running c n s) (hcs : s.bus.csAsserted = false) :
    Continues c n (attemptsLeft c s + (loopSteps c s.seq.iter - 1)) (nextIteration s) := by
  have hpos := loopSteps_pos c s.seq.iter
  by_cases hiter : s.seq.iter + 1 < s.cfg.acmd41Budget.toNat
  · rw [nextIteration_more hiter]
    have hloop := loopSteps_succ c (h.cfg ▸ hiter)
    have hnext : Running c n { s with seq := { s.seq with iter := s.seq.iter + 1 } } := h.congr rfl rfl rfl rfl
    split
    · refine (continues_startCommand hnext hcs .cmd55).mono ?_
      simp only [afterCommand]
      change attemptsLeft c s + _ ≤ _
      omega
    · refine (continues_startCommand hnext hcs .cmd58Loop).mono ?_
      simp only [afterCommand]
      change attemptsLeft c s + _ ≤ _
      omega
  · rw [nextIteration_spent (by omega)]
    exact (continues_initFail h).mono (by omega)

/-! ### Blocks -/

theorem blockCount_lt (s : State) : blockCount s < 2 ^ 32 := lt_of_le_of_lt (Nat.div_le_self _ _) s.op.latLen.isLt

theorem continues_startSend {t : Byte} (h : Running c n s)
    (hf : (s.seq.form = .cmd24 ∧ t = 0xFE) ∨ (s.seq.form = .cmd25 ∧ (t = 0xFC ∨ t = 0xFD))) :
    Continues c n (attemptsLeft c s + (sendSteps c + afterSend c n t s.op.blocksDone.toNat)) (startSend t s) :=
  ⟨h.congr rfl rfl rfl rfl, ⟨nofun, nofun, nofun, nofun, fun _ => hf, nofun⟩, le_rfl⟩

/-- Counting a block writes blocks_done and PROG_IP alone. -/
theorem counted_eq (s : State) : ∃ ip, counted s =
    { s with op := { s.op with blocksDone := s.op.blocksDone + 1, progIp := ip } } := by
  unfold counted progress
  split <;> exact ⟨_, rfl⟩

theorem running_counted (h : Running c n s) : Running c n (counted s) := by
  obtain ⟨ip, he⟩ := counted_eq s
  rw [he]
  exact ⟨h.cfg, h.valid, h.host, h.refused, h.count, h.busy, h.attempt⟩

/-- What the block that follows a counted one, or the end of the transfer, leaves of the bound. -/
theorem transferSteps_counted (h : Running c n s) :
    attemptsLeft c (counted s) = attemptsLeft c s ∧ blockSteps c ≤ transferSteps c n s.op.blocksDone.toNat ∧
      ((counted s).op.blocksDone.toNat < blockCount (counted s) →
        transferSteps c n (counted s).op.blocksDone.toNat + blockSteps c ≤ transferSteps c n s.op.blocksDone.toNat) := by
  have hcount := (running_counted h).count
  obtain ⟨ip, he⟩ := counted_eq s
  refine ⟨by rw [he]; rfl, blockSteps_le_transferSteps c n _, fun hlt => ?_⟩
  rw [hcount] at hlt
  rw [he] at hlt ⊢
  exact transferSteps_succ c n (h.count ▸ blockCount_lt s) hlt

theorem continues_chunkDone (h : Running c n s) (hf : s.seq.form = .cmd25) :
    Continues c n (attemptsLeft c s + transferSteps c n s.op.blocksDone.toNat) (chunkDone s) := by
  obtain ⟨hattempts, hblock, hnext⟩ := transferSteps_counted h
  have hform : (counted s).seq.form = .cmd25 := by
    rw [counted_frame]
    exact hf
  have hchunk : chunkDone s =
      if (counted s).op.blocksDone.toNat < blockCount (counted s) then startSend 0xFC (counted s)
      else startSend 0xFD (counted s) := rfl
  rw [hchunk]
  split
  · rename_i hlt
    refine (continues_startSend (running_counted h) (.inr ⟨hform, .inl rfl⟩)).mono ?_
    have hsend : afterSend c n 0xFC (counted s).op.blocksDone.toNat = transferSteps c n (counted s).op.blocksDone.toNat :=
      if_pos rfl
    have := hnext hlt
    unfold blockSteps at this
    omega
  · refine (continues_startSend (running_counted h) (.inr ⟨hform, .inr rfl⟩)).mono ?_
    have hsend : afterSend c n 0xFD (counted s).op.blocksDone.toNat = 0 := if_neg (by decide)
    unfold blockSteps at hblock
    omega

theorem continues_finish {t : State} (code : ErrCode) (h : Running c n t) (hcs : t.bus.csAsserted = false) :
    Continues c n (attemptsLeft c t + 1) (finishWith code t) :=
  continues_plain (h.congr rfl rfl rfl rfl) rfl (fun _ => hcs) le_rfl

theorem continues_readBlockDone (h : Running c n s) (hcs : s.bus.csAsserted = false) (hf : s.seq.form ≠ .cmd9) :
    Continues c n (attemptsLeft c s + transferSteps c n s.op.blocksDone.toNat) (readBlockDone s) := by
  obtain ⟨hattempts, hblock, hnext⟩ := transferSteps_counted h
  have hread : readBlockDone s = if s.seq.form = .cmd17 then finishWith .ok (countBlock s)
      else if (counted s).op.blocksDone.toNat < blockCount (counted s) then goto .recvAssert (counted s)
      else startCommand .cmd12 0 (counted s) := rfl
  have hcs' : (counted s).bus.csAsserted = false := by
    rw [counted_frame]
    exact hcs
  have hform : (counted s).seq = s.seq := by rw [counted_frame]
  unfold blockSteps at hblock hnext
  rw [hread]
  split
  · have hrun : Running c n (countBlock s) := ⟨h.cfg, h.valid, h.host, h.refused, h.count, h.busy, h.attempt⟩
    refine (continues_finish .ok hrun hcs).mono ?_
    change attemptsLeft c s + 1 ≤ _
    omega
  split
  · rename_i hlt
    refine continues_plain ((running_counted h).congr rfl rfl rfl rfl) rfl nofun ?_
    have hafter : afterReceive c n (counted s).seq.form (counted s).op.blocksDone.toNat =
        transferSteps c n (counted s).op.blocksDone.toNat := if_neg (by rwa [hform])
    have := hnext hlt
    change attemptsLeft c (counted s) +
      (receiveSteps c + afterReceive c n (counted s).seq.form (counted s).op.blocksDone.toNat) ≤ _
    omega
  · refine (continues_startCommand (running_counted h) hcs' .cmd12).mono ?_
    simp only [afterCommand]
    omega

/-- The end of a received block, with its CS deasserted: the CSD is parsed, or the block counted (R234, R272, R273). -/
theorem continues_recvDone (h : Running c n s) (hcs : s.bus.csAsserted = false) :
    Continues c n (attemptsLeft c s + afterReceive c n s.seq.form s.op.blocksDone.toNat) (recvDone s) := by
  unfold recvDone afterReceive
  split
  · have hparse : ∃ g, parseGeometry s = { s with geom := g } := by
      unfold parseGeometry
      split <;> exact ⟨_, rfl⟩
    obtain ⟨g, hg⟩ := hparse
    unfold csdDone
    rw [hg]
    exact continues_startCommand (s := { s with geom := g, initState := .blockLenSet }) (h.congr rfl rfl rfl rfl) hcs .cmd16
  · rename_i hf
    exact continues_readBlockDone h hcs hf

/-! ### The return of SendCommand -/

theorem six_le_afterCommand (f : Form) (i b : Nat) : 6 ≤ afterCommand c n f i b := by
  cases f <;> simp only [afterCommand, probeSteps, loopSteps, voltageSteps, csdSteps, sendSteps, receiveSteps,
    commandSteps] <;> omega

/-- The callers of the commands that hold CS receive a block, or fail, or raise (R234, R272, R273). -/
theorem continues_commandReturn_of_hold (h : Running c n s)
    (hf : s.seq.form = .cmd9 ∨ s.seq.form = .cmd17 ∨ s.seq.form = .cmd18) (r : Option Byte) :
    Continues c n (attemptsLeft c s + afterCommand c n s.seq.form s.seq.iter s.op.blocksDone.toNat) (commandReturn r s) := by
  have hsix := six_le_afterCommand (c := c) (n := n) s.seq.form s.seq.iter s.op.blocksDone.toNat
  have hfail := (continues_initFail h).mono (Nat.add_le_add_left hsix _)
  have hraise := fun kind => (continues_raise h kind).mono (Nat.add_le_add_left hsix _)
  have hreceive : Continues c n (attemptsLeft c s + afterCommand c n s.seq.form s.seq.iter s.op.blocksDone.toNat)
      (goto .recvAssert s) := by
    refine continues_plain (h.congr rfl rfl rfl rfl) rfl nofun ?_
    change attemptsLeft c s + (receiveSteps c + afterReceive c n s.seq.form s.op.blocksDone.toNat) ≤ _
    obtain hf | hf | hf := hf <;> simp [hf, afterReceive, afterCommand, csdSteps, Nat.add_assoc]
  obtain h9 | hf := hf
  · rw [commandReturn_of_cmd9 h9]
    exact iteInduction (fun _ => hreceive) fun _ => hfail
  · rw [commandReturn_of_transfer (by obtain hf | hf := hf <;> simp [hf])]
    have hnext : transferNext s = goto .recvAssert s := by
      unfold transferNext
      obtain hf | hf := hf <;> rw [hf] <;> rfl
    rw [hnext]
    exact iteInduction (fun _ => hraise _) fun _ => iteInduction (fun _ => hreceive) fun _ => hraise _

/-- The callers of the other commands go on with what is counted after their form, or fail, or raise (R180 to R193). -/
theorem continues_commandReturn_of_released (h : Running c n s) (hcs : s.bus.csAsserted = false)
    (hrel : formRelease s.seq.form = true) (r : Option Byte) :
    Continues c n (attemptsLeft c s + afterCommand c n s.seq.form s.seq.iter s.op.blocksDone.toNat) (commandReturn r s) := by
  have hsix := six_le_afterCommand (c := c) (n := n) s.seq.form s.seq.iter s.op.blocksDone.toNat
  have hfail := (continues_initFail h).mono (Nat.add_le_add_left hsix _)
  have hraise := fun kind => (continues_raise h kind).mono (Nat.add_le_add_left hsix _)
  have hcall := continues_startCommand h hcs
  have hloop : ∀ st, Continues c n (attemptsLeft c s + probeSteps c)
      (startCommand .cmd58Loop 0 { s with initState := st, seq := { s.seq with iter := 0 } }) ∧
      Continues c n (attemptsLeft c s + probeSteps c)
      (startCommand .cmd55 0 { s with initState := st, seq := { s.seq with iter := 0 } }) := fun st => by
    have hentry := continues_startCommand (s := { s with initState := st, seq := { s.seq with iter := 0 } })
      (h.congr rfl rfl rfl rfl) hcs
    refine ⟨(hentry .cmd58Loop).mono ?_, (hentry .cmd55).mono ?_⟩ <;>
      simp only [afterCommand, probeSteps, attemptsLeft] <;> omega
  have hvoltage : ∀ unit, Continues c n (attemptsLeft c s + voltageSteps c) (voltageReached unit s) := fun unit =>
    continues_plain (h.congr rfl rfl rfl rfl) rfl (fun _ => hcs) le_rfl
  unfold commandReturn
  cases hf : s.seq.form <;> rw [hf] at hfail hraise hrel
  case cmd9 | cmd17 | cmd18 => exact absurd hrel nofun
  case cmd0 =>
    exact iteInduction (fun _ => continues_plain (h.congr rfl rfl rfl rfl) rfl (fun _ => hcs) le_rfl) fun _ => hfail
  case cmd8 =>
    exact iteInduction (fun _ => (hloop _).1) fun _ => iteInduction (fun _ => (hloop _).2) fun _ => hfail
  case cmd55 => exact iteInduction (fun _ => hcall .acmd41V1) fun _ => hcall .acmd41V2
  case acmd41V1 =>
    refine iteInduction (fun _ => (hvoltage _).mono ?_) fun _ =>
      continues_plain (h.congr rfl rfl rfl rfl) rfl (fun _ => hcs) le_rfl
    simp only [afterCommand, loopSteps]
    omega
  case acmd41V2 =>
    refine iteInduction (fun _ => (hcall .cmd58Final).mono ?_) fun _ =>
      continues_plain (h.congr rfl rfl rfl rfl) rfl (fun _ => hcs) le_rfl
    simp only [afterCommand, loopSteps]
    omega
  case cmd58Loop =>
    refine (hcall .cmd55).mono ?_
    simp only [afterCommand]
    omega
  case cmd58Final => exact iteInduction (fun _ => hvoltage _) fun _ => hfail
  case cmd16 =>
    exact iteInduction (fun _ => continues_plain (h.congr rfl rfl rfl rfl) rfl (fun _ => hcs)
      (show attemptsLeft c s + 2 ≤ attemptsLeft c s + 6 by omega)) fun _ => hfail
  case cmd12 =>
    exact iteInduction (fun _ => hraise _) fun _ => iteInduction (fun _ =>
      (continues_finish .ok h hcs).mono (show attemptsLeft c s + 1 ≤ attemptsLeft c s + 6 by omega)) fun _ => hraise _
  case cmd24 =>
    exact iteInduction (fun _ => hraise _) fun _ => iteInduction (fun _ =>
      (continues_startSend h (.inl ⟨hf, rfl⟩)).mono le_rfl) fun _ => hraise _
  case cmd25 =>
    exact iteInduction (fun _ => hraise _) fun _ => iteInduction (fun _ =>
      (continues_startSend h (.inr ⟨hf, .inl rfl⟩)).mono le_rfl) fun _ => hraise _

/-- SendCommand's last assignments and its return (R172), with CS deasserted or left to the caller. -/
theorem continues_endCommand (h : Running c n s) (hcs : s.bus.csAsserted = false ∨ formRelease s.seq.form = false)
    (r : Option Byte) :
    Continues c n (attemptsLeft c s + afterCommand c n s.seq.form s.seq.iter s.op.blocksDone.toNat) (endCommand r s) := by
  have hrec : Running c n (recorded r s) := h.congr rfl rfl rfl rfl
  rw [endCommand_eq]
  cases formKind s.seq.form with
  | trails hcount hrel hf | releases hcount hcap hrel hf =>
    have hcs : s.bus.csAsserted = false := hcs.resolve_right (by simp [hrel])
    exact continues_commandReturn_of_released (s := recorded r s) hrec hcs hrel r
  | holds hcount hcap hrel hf => exact continues_commandReturn_of_hold (s := recorded r s) hrec hf r

/-- After the trailing bytes: the release, or the return with CS asserted (R172). -/
theorem continues_afterTrailing (h : Running c n s) :
    Continues c n (attemptsLeft c s + (2 + afterCommand c n s.seq.form s.seq.iter s.op.blocksDone.toNat))
      (afterTrailing s) := by
  cases hrel : formRelease s.seq.form with
  | true =>
    rw [afterTrailing_of_release hrel]
    exact continues_plain (h.congr rfl rfl rfl rfl) rfl nofun le_rfl
  | false =>
    rw [afterTrailing_of_hold hrel]
    exact (continues_endCommand h (.inr hrel) _).mono (by omega)

/-- A valid R1 ends the poll (R172, R173). -/
theorem continues_afterR1 (h : Running c n s) (b : Byte) :
    Continues c n (attemptsLeft c s + (7 + afterCommand c n s.seq.form s.seq.iter s.op.blocksDone.toNat))
      (afterR1 b s) := by
  have hhold : Running c n (holdR1 b s) := h.congr rfl rfl rfl rfl
  unfold afterR1
  exact iteInduction (fun _ => continues_plain (hhold.congr rfl rfl rfl rfl) rfl nofun le_rfl) fun _ =>
    (continues_afterTrailing hhold).mono (show attemptsLeft c s + (2 + _) ≤ _ by simp only [holdR1_seq, holdR1_op]; omega)

end

end Sys2Proof.Proofs
end


section
/-! SUPPORT. Each framer step of a running operation ends it or leaves fewer steps, and so every operation ends (O57). -/

namespace Sys2Proof.Proofs
open Sys2Proof.Machine Sys2Proof.Laws

/-! ### One step -/

section
variable {c : Config.Params} {n r : Nat} {s t : State}

/-- The operation has ended: idle, with DONE set and CS deasserted. -/
def Ended (t : State) : Prop := t.op.busy = false ∧ t.op.done = true ∧ t.bus.csAsserted = false

/-- From `s` to `t` the operation has ended, or has fewer steps left. -/
def Advances (c : Config.Params) (n : Nat) (s t : State) : Prop := Ended t ∨ ∃ r < stepsLeft c n s, Continues c n r t

theorem advances_of_continues {m : Nat} {u : State} (h : Continues c n (attemptsLeft c u + m) t)
    (hlt : m < stepsAt c n s.seq s.op.blocksDone.toNat) (hop : u.op = s.op) : Advances c n s t := by
  rw [attemptsLeft_congr hop] at h
  exact .inr ⟨_, Nat.add_lt_add_left hlt _, h⟩

theorem Advances.ite {p : Prop} [Decidable p] {a b : State} (ha : p → Advances c n s a) (hb : ¬p → Advances c n s b) :
    Advances c n s (if p then a else b) := by
  split
  · exact ha ‹_›
  · exact hb ‹_›

/-- A step to a position of which nothing but the level of CS is asked. -/
theorem advances_plain (h : Running c n t) (hop : t.op = s.op) (hplain : posPlain t.seq.pos = true)
    (hcs : posCsReleased t.seq.pos = true → t.bus.csAsserted = false)
    (hlt : stepsAt c n t.seq s.op.blocksDone.toNat < stepsAt c n s.seq s.op.blocksDone.toNat) : Advances c n s t := by
  exact advances_of_continues (continues_plain h hplain hcs le_rfl) (hop ▸ hlt) hop

/-- A step to a position of a write's data phase. -/
theorem advances_send (h : Running c n t) (hop : t.op = s.op) (hwrite : posOfWrite t.seq.pos = true)
    (hcs : posCsReleased t.seq.pos = true → t.bus.csAsserted = false) (hfits : SendFits t.seq)
    (hlt : stepsAt c n t.seq s.op.blocksDone.toNat < stepsAt c n s.seq s.op.blocksDone.toNat) : Advances c n s t := by
  have hplaced : Placed t := by
    refine ⟨fun e => ?_, hcs, fun e => ?_, fun e => ?_, hfits⟩
    · simp [e, posOfWrite] at hwrite
    · revert hwrite e
      cases t.seq.pos <;> simp [posOfWrite, posBeforeAttempt]
    · simp [e, posOfWrite] at hwrite
  exact advances_of_continues ⟨h, hplaced, le_rfl⟩ (hop ▸ hlt) hop

/-- A step to a position before the next attempt. -/
theorem advances_attempt (h : Running c n t) (hop : t.op = s.op) (hpos : posBeforeAttempt t.seq.pos = true)
    (h8 : s.op.attempt.toNat < 8) (hcs : posCsReleased t.seq.pos = true → t.bus.csAsserted = false)
    (hlt : stepsAt c n t.seq s.op.blocksDone.toNat < stepsAt c n s.seq s.op.blocksDone.toNat) : Advances c n s t := by
  have hplaced : Placed t := by
    refine ⟨fun e => ?_, hcs, fun _ => hop ▸ h8, fun e => ?_, ⟨fun e => ?_, fun e => ?_⟩⟩
    · simp [e, posBeforeAttempt] at hpos
    · simp [e, posBeforeAttempt] at hpos
    · revert hpos e
      cases t.seq.pos <;> simp [posOfWrite, posBeforeAttempt]
    · revert hpos e
      cases t.seq.pos <;> simp [posOfSend, posBeforeAttempt]
  exact advances_of_continues ⟨h, hplaced, le_rfl⟩ (hop ▸ hlt) hop

variable (h : Running c n s) (hp : Placed s)
include h hp

/-- The primitives of INIT's own positions (R211 to R219, R236). -/
theorem advances_init (hinit : posOfInit s.seq.pos = true) (hnext : primitive s = .next t) : Advances c n s t := by
  have hcs := hp.released
  have hattempt := hp.attempts
  unfold primitive at hnext
  cases hpos : s.seq.pos <;> rw [hpos] at hnext hcs hattempt hinit <;> cases hinit <;> cases hnext
  case initClock =>
    exact advances_attempt (h.congr rfl rfl rfl rfl) rfl rfl (hattempt rfl) hcs (by simp [stepsAt, hpos])
  case initDeassert =>
    refine .ite (fun _ => ?_) fun _ => ?_
    · exact advances_attempt (h.congr rfl rfl rfl rfl) rfl rfl (hattempt rfl) (fun _ => rfl) (by simp [stepsAt, hpos])
    · exact advances_of_continues (continues_beginAttempt (h.congr rfl rfl rfl rfl) rfl (hattempt rfl))
        (by simp [stepsAt, hpos]) rfl
  case powerup =>
    refine .ite (fun hk => ?_) fun _ => ?_
    · rw [h.cfg] at hk
      exact advances_attempt (h.congr rfl rfl rfl rfl) rfl rfl (hattempt rfl) hcs (by simp [stepsAt, hpos]; omega)
    · exact advances_of_continues (continues_beginAttempt (h.congr rfl rfl rfl rfl) (hcs rfl) (hattempt rfl))
        (by simp [stepsAt, hpos]) rfl
  case cmd0Idle =>
    exact advances_of_continues (continues_startCommand (s := { s with initState := .versionProbe })
      (h.congr rfl rfl rfl rfl) (hcs rfl) .cmd8) (by simp [stepsAt, hpos, afterCommand]) rfl
  case voltageOk =>
    exact advances_of_continues (continues_startCommand (s := { s with initState := .csdRead })
      (h.congr rfl rfl rfl rfl) (hcs rfl) .cmd9)
      (by simp only [stepsAt, hpos, afterCommand, voltageSteps]; omega) rfl
  case acmdSleep =>
    have hloop := loopSteps_pos c s.seq.iter
    exact advances_of_continues (continues_nextIteration (h.congr rfl rfl rfl rfl) (hcs rfl))
      (by simp only [stepsAt, hpos, sleep_seq]; omega) rfl
  case readyClock => exact advances_plain (h.congr rfl rfl rfl rfl) rfl rfl hcs (by simp [stepsAt, hpos, stepReadyClock])
  case readyDone => exact .inl ⟨rfl, rfl, hcs rfl⟩
  case retryDeassert =>
    exact advances_attempt (h.congr rfl rfl rfl rfl) rfl rfl (hattempt rfl) (fun _ => rfl) (by simp [stepsAt, hpos])
  case retryClock =>
    exact advances_attempt (h.congr rfl rfl rfl rfl) rfl rfl (hattempt rfl) hcs (by simp [stepsAt, hpos])
  case retrySleep =>
    exact advances_of_continues (continues_beginAttempt (h.congr rfl rfl rfl rfl) (hcs rfl) (hattempt rfl))
      (by simp [stepsAt, hpos]) rfl

omit h hp in
theorem captureByte_eq (v : Byte) (s : State) :
    ∃ cap, captureByte v s = { s with cmd := { s.cmd with cap := cap } } := by
  unfold captureByte
  split <;> exact ⟨_, rfl⟩

omit h hp in
theorem trailingCount_le (f : Form) : trailingCount (formTrailing f) ≤ 4 := by cases f <;> decide

/-- SendCommand's primitives (R172 to R174). -/
theorem advances_command (hcommand : posOfCommand s.seq.pos = true) (hnext : primitive s = .next t) :
    Advances c n s t := by
  have hcs := hp.released
  unfold primitive at hnext
  cases hpos : s.seq.pos <;> rw [hpos] at hnext hcs hcommand <;> cases hcommand <;> cases hnext
  case cmdFrame =>
    refine .ite (fun _ => ?_) fun _ => .ite (fun _ => ?_) fun _ => ?_ <;>
      exact advances_plain (h.congr rfl rfl rfl rfl) rfl rfl nofun (by simp [stepsAt, hpos]; omega)
  case cmdSkip => exact advances_plain (h.congr rfl rfl rfl rfl) rfl rfl nofun (by simp [stepsAt, hpos])
  case cmdPoll =>
    refine .ite (fun hk => ?_) fun _ => ?_
    · rw [h.cfg] at hk
      exact advances_plain (h.congr rfl rfl rfl rfl) rfl rfl nofun (by simp [stepsAt, hpos]; omega)
    · exact advances_plain (h.congr rfl rfl rfl rfl) rfl rfl nofun (by simp only [stepsAt, hpos, goto_seq, xfer_seq]; omega)
  case cmdTrail =>
    obtain ⟨cap, hcap⟩ := captureByte_eq (nextMiso s) (xfer 0xFF s)
    have hcount := trailingCount_le s.seq.form
    unfold stepCmdTrail
    rw [hcap]
    refine .ite (fun hk => ?_) fun _ => ?_
    · exact advances_plain (h.congr rfl rfl rfl rfl) rfl rfl nofun (by simp [stepsAt, hpos]; omega)
    · refine advances_of_continues (continues_afterTrailing (s := { xfer 0xFF s with cmd := { s.cmd with cap := cap } })
        (h.congr rfl rfl rfl rfl)) ?_ rfl
      simp only [stepsAt, hpos, xfer_seq, xfer_op]
      omega
  case cmdRelease => exact advances_plain (h.congr rfl rfl rfl rfl) rfl rfl (fun _ => rfl) (by simp [stepsAt, hpos])
  case cmdTimeout => exact advances_plain (h.congr rfl rfl rfl rfl) rfl rfl (fun _ => rfl) (by simp [stepsAt, hpos])
  case cmdReleaseClock | cmdTimeoutClock =>
    exact advances_of_continues (continues_endCommand (s := xfer 0xFF s) (h.congr rfl rfl rfl rfl) (.inl (hcs rfl)) _)
      (by simp [stepsAt, hpos]) rfl

/-- RecvDataBlock's primitives (R261, R262). -/
theorem advances_receive (hreceive : posOfRecv s.seq.pos = true) (hnext : primitive s = .next t) : Advances c n s t := by
  have hcs := hp.released
  unfold primitive at hnext
  cases hpos : s.seq.pos <;> rw [hpos] at hnext hcs hreceive <;> cases hreceive
  case recvStore =>
    replace hnext : stepRecvStore s = .next t := hnext
    unfold stepRecvStore at hnext
    split at hnext <;> cases hnext
    have hlen : recvLength s ≤ 512 := by
      unfold recvLength
      split <;> decide
    refine .ite (fun hk => ?_) fun _ => ?_
    · exact advances_plain (h.congr rfl rfl rfl rfl) rfl rfl nofun (by simp [stepsAt, hpos]; omega)
    · exact advances_plain (h.congr rfl rfl rfl rfl) rfl rfl nofun (by simp [stepsAt, hpos])
  all_goals cases hnext
  case recvAssert =>
    exact advances_plain (h.congr rfl rfl rfl rfl) rfl rfl nofun (by simp [stepsAt, hpos, receiveSteps])
  case recvToken => exact advances_plain (h.congr rfl rfl rfl rfl) rfl rfl nofun (by simp [stepsAt, hpos])
  case recvTokenSleep =>
    refine .ite (fun hk => ?_) fun _ => ?_
    · rw [h.cfg] at hk
      exact advances_plain (h.congr rfl rfl rfl rfl) rfl rfl nofun (by simp [stepsAt, hpos]; omega)
    · have hrun : Running c n (sleep s.cfg.tokenPollSleepMs s) := h.congr rfl rfl rfl rfl
      exact .ite (fun _ => advances_of_continues (continues_initFail hrun) (by simp only [stepsAt, hpos]; omega) rfl)
        fun _ => advances_of_continues (continues_raise hrun _) (by simp only [stepsAt, hpos]; omega) rfl
  case recvData =>
    refine .ite (fun hf => .ite (fun hk => ?_) fun _ => ?_) fun _ => ?_
    · have hlen : recvLength s = 16 := if_pos hf
      exact advances_plain (h.congr rfl rfl rfl rfl) rfl rfl nofun (by simp [stepsAt, hpos]; omega)
    · exact advances_plain (h.congr rfl rfl rfl rfl) rfl rfl nofun
        (by simp only [stepsAt, hpos, enter_seq, xfer_seq]; omega)
    · exact advances_plain (h.congr rfl rfl rfl rfl) rfl rfl nofun (by simp [stepsAt, hpos])
  case recvCrc =>
    refine .ite (fun hk => ?_) fun _ => ?_
    · exact advances_plain (h.congr rfl rfl rfl rfl) rfl rfl nofun (by simp [stepsAt, hpos]; omega)
    · exact advances_plain (h.congr rfl rfl rfl rfl) rfl rfl nofun
        (by simp only [stepsAt, hpos, goto_seq, xfer_seq]; omega)
  case recvRelease => exact advances_plain (h.congr rfl rfl rfl rfl) rfl rfl (fun _ => rfl) (by simp [stepsAt, hpos])
  case recvReleaseClock =>
    exact advances_of_continues (continues_recvDone (s := xfer 0xFF s) (h.congr rfl rfl rfl rfl) (hcs rfl))
      (by simp [stepsAt, hpos]) rfl

/-- The primitives of a write's data phase (R264, R266, R267). -/
theorem advances_write (hwrite : posOfWrite s.seq.pos = true) (hnone : fetched s = none) (hnext : primitive s = .next t) :
    Advances c n s t := by
  have hcs := hp.released
  obtain ⟨hfits, hdata⟩ := hp.sends
  have hform := hfits hwrite
  unfold primitive at hnext
  cases hpos : s.seq.pos <;> rw [hpos] at hnext hcs hwrite hdata <;> cases hwrite
  case sendFetch =>
    replace hnext : stepSendFetch s = .next t := hnext
    unfold stepSendFetch at hnext
    split at hnext <;> cases hnext
    exact advances_send (h.congr rfl rfl rfl rfl) rfl rfl nofun ⟨fun _ => hform, fun _ => hdata rfl⟩
      (by simp [stepsAt, hpos])
  case sendResponse =>
    unfold fetched at hnone
    rw [hpos] at hnone
    cases hnone
  all_goals cases hnext
  case txAssert =>
    exact advances_send (h.congr rfl rfl rfl rfl) rfl rfl nofun ⟨fun _ => hform, nofun⟩
      (by simp [stepsAt, hpos, sendSteps])
  case sendData =>
    refine .ite (fun hk => ?_) fun _ => ?_
    · replace hk : s.seq.k + 1 < 512 := hk
      exact advances_send (h.congr rfl rfl rfl rfl) rfl rfl nofun ⟨fun _ => hform, fun _ => hdata rfl⟩
        (by simp [stepsAt, hpos]; omega)
    · exact advances_send (h.congr rfl rfl rfl rfl) rfl rfl nofun ⟨fun _ => hform, fun _ => hdata rfl⟩
        (by simp only [stepsAt, hpos, enter_seq, xfer_seq]; omega)
  case sendCrc =>
    refine .ite (fun hk => ?_) fun _ => ?_
    · exact advances_send (h.congr rfl rfl rfl rfl) rfl rfl nofun ⟨fun _ => hform, fun _ => hdata rfl⟩
        (by simp [stepsAt, hpos]; omega)
    · exact advances_send (h.congr rfl rfl rfl rfl) rfl rfl nofun ⟨fun _ => hform, fun _ => hdata rfl⟩
        (by simp only [stepsAt, hpos, goto_seq, xfer_seq]; omega)
  case stopFiller =>
    exact advances_send (h.congr rfl rfl rfl rfl) rfl rfl nofun ⟨fun _ => hform, nofun⟩ (by simp [stepsAt, hpos])
  case busyPoll =>
    refine .ite (fun htok => ?_) fun _ => ?_
    · have h25 : s.seq.form = .cmd25 := hform.elim (fun h24 => absurd (h24.2.symm.trans htok) (by decide)) And.left
      have hsend : afterSend c n s.seq.tok s.op.blocksDone.toNat = transferSteps c n s.op.blocksDone.toNat := if_pos htok
      exact advances_of_continues (continues_chunkDone (s := xfer 0xFF s) (h.congr rfl rfl rfl rfl) h25)
        (by simp only [stepsAt, hpos, xfer_op]; omega) rfl
    · exact advances_send (h.congr rfl rfl rfl rfl) rfl rfl nofun ⟨fun _ => hform, nofun⟩
        (by simp only [stepsAt, hpos, goto_seq, xfer_seq]; omega)
  case busySleep =>
    refine .ite (fun hk => ?_) fun _ => ?_
    · rw [h.cfg] at hk
      exact advances_send (h.congr rfl rfl rfl rfl) rfl rfl nofun ⟨fun _ => hform, nofun⟩ (by simp [stepsAt, hpos]; omega)
    · exact advances_of_continues (continues_raise (s := sleep _ s) (h.congr rfl rfl rfl rfl) _)
        (by simp only [stepsAt, hpos]; omega) rfl
  case endRelease =>
    exact advances_send (h.congr rfl rfl rfl rfl) rfl rfl (fun _ => rfl) ⟨fun _ => hform, nofun⟩ (by simp [stepsAt, hpos])
  case endReleaseClock =>
    exact advances_plain (h.congr rfl rfl rfl rfl) rfl rfl hcs (by simp [stepsAt, hpos])

/-- Every primitive of a running operation; Abort's and `complete` among them (R176, R352). -/
theorem advances_primitive (hnone : fetched s = none) (hnext : primitive s = .next t) : Advances c n s t := by
  by_cases hinit : posOfInit s.seq.pos = true
  · exact advances_init h hp hinit hnext
  by_cases hcommand : posOfCommand s.seq.pos = true
  · exact advances_command h hp hcommand hnext
  by_cases hreceive : posOfRecv s.seq.pos = true
  · exact advances_receive h hp hreceive hnext
  by_cases hwrite : posOfWrite s.seq.pos = true
  · exact advances_write h hp hwrite hnone hnext
  have hcs := hp.released
  unfold primitive at hnext
  cases hpos : s.seq.pos <;> rw [hpos] at hnext hcs hinit hcommand hreceive hwrite
  case idle => exact absurd hpos hp.started
  case abortRelease =>
    cases hnext
    exact advances_plain (h.congr rfl rfl rfl rfl) rfl rfl (fun _ => rfl) (by simp [stepsAt, hpos])
  case abortClock =>
    cases hnext
    refine .ite (fun _ => ?_) fun _ => ?_
    · exact advances_of_continues (continues_attemptFailed (s := xfer 0xFF s) (h.congr rfl rfl rfl rfl) (hcs rfl))
        (by simp [stepsAt, hpos]) rfl
    · exact advances_plain (h.congr rfl rfl rfl rfl) rfl rfl hcs (by simp [stepsAt, hpos])
  case finish =>
    cases hnext
    exact .inl ⟨rfl, rfl, hcs rfl⟩
  all_goals simp [posOfInit, posOfCommand, posOfRecv, posOfWrite] at hinit hcommand hreceive hwrite

omit h hp in
/-- The token 0xFD goes out as the stop token (R128). -/
theorem tok_of_fetched {i : Instr} (hpos : s.seq.pos = .txToken) (hi : fetched s = some i) (hstop : i ≠ .tokenStopTran) :
    s.seq.tok ≠ 0xFD := by
  intro htok
  unfold fetched at hi
  rw [hpos, htok] at hi
  exact hstop (Option.some.inj hi).symm

/-- An accepted data response: the busy wait, or the next chunk or the stop token (R274, R275). -/
theorem advances_blockAccepted (hpos : s.seq.pos = .sendResponse) (b : Byte) :
    Advances c n s (blockAccepted (exchange 0xFF b s)) := by
  obtain ⟨hfits, hdata⟩ := hp.sends
  have hform := hfits (by rw [hpos]; rfl)
  have hne := hdata (by rw [hpos]; rfl)
  refine .ite (fun h24 => ?_) fun h24 => .ite (fun _ => ?_) fun _ => ?_
  · have htok : s.seq.tok = 0xFE := hform.elim And.right fun h25 => absurd (h25.1.symm.trans h24) (by decide)
    have hsend : ∀ k, afterSend c n s.seq.tok k = 0 := fun k => if_neg (by rw [htok]; decide)
    have hnext : Continues c n (attemptsLeft c s + (2 * c.busyPollBudget.toNat + 8))
        (enter .busyPoll (countBlock (exchange 0xFF b s))) := by
      refine ⟨⟨h.cfg, h.valid, h.host, h.refused, h.count, h.busy, h.attempt⟩,
        ⟨nofun, nofun, nofun, nofun, fun _ => hform, nofun⟩, ?_⟩
      simp [stepsLeft, stepsAt, attemptsLeft, hsend]
    exact advances_of_continues hnext (by simp only [stepsAt, hpos]; omega) rfl
  · exact advances_send (h.congr rfl rfl rfl rfl) rfl rfl nofun ⟨fun _ => hform, nofun⟩ (by simp [stepsAt, hpos])
  · obtain ⟨h25, htok⟩ := hform.resolve_left fun hfe => h24 hfe.1
    have hsend : afterSend c n s.seq.tok s.op.blocksDone.toNat = transferSteps c n s.op.blocksDone.toNat :=
      if_pos (htok.resolve_right hne)
    exact advances_of_continues (continues_chunkDone (s := exchange 0xFF b s) (h.congr rfl rfl rfl rfl) h25)
      (by simp only [stepsAt, hpos, exchange_op]; omega) rfl

/-- Every row that a running operation meets: a frame, R1, a token, a data response, or busy. -/
theorem advances_exec {i : Instr} (hi : fetched s = some i) (hnext : exec i s = .next t) : Advances c n s t := by
  obtain ⟨hpos, -⟩ | ⟨hpos, low, rfl⟩ | ⟨hpos, rfl⟩ | ⟨hpos, hrow⟩ | ⟨hpos, ⟨up, rfl⟩ | ⟨d, rfl⟩⟩ | ⟨hpos, rfl⟩ :=
    fetched_cases hi
  · obtain ⟨i', hi', hform⟩ := hp.framed hpos
    rw [hi] at hi'
    cases hi'
    obtain ⟨arg, crc, he⟩ := exec_of_frame hform s
    rw [he] at hnext
    cases hnext
    exact advances_plain (h.congr rfl rfl rfl rfl) rfl rfl nofun
      (by simp [stepsAt, hpos, beginCommand, commandSteps])
  · cases hnext
    exact advances_of_continues (continues_afterR1 (s := exchange 0xFF _ s) (h.congr rfl rfl rfl rfl) _)
      (by simp only [stepsAt, hpos, exchange_seq, exchange_op]; omega) rfl
  · cases hnext
    exact advances_plain (h.congr rfl rfl rfl rfl) rfl rfl nofun
      (by simp only [stepsAt, hpos, enter_seq, exchange_seq]; omega)
  · have hform := hp.sends.1 (by rw [hpos]; rfl)
    obtain rfl | rfl | rfl := hrow <;> cases hnext
    · have hne := tok_of_fetched hpos hi nofun
      exact advances_send (h.congr rfl rfl rfl rfl) rfl rfl nofun ⟨fun _ => hform, fun _ => hne⟩ (by simp [stepsAt, hpos])
    · have hne := tok_of_fetched hpos hi nofun
      exact advances_send (h.congr rfl rfl rfl rfl) rfl rfl nofun ⟨fun _ => hform, fun _ => hne⟩ (by simp [stepsAt, hpos])
    · exact advances_send (h.congr rfl rfl rfl rfl) rfl rfl nofun ⟨fun _ => hform, nofun⟩ (by simp [stepsAt, hpos])
  · cases hnext
    exact advances_blockAccepted h hp hpos _
  · cases hnext
    exact advances_of_continues (continues_raise (s := exchange 0xFF d s) (h.congr rfl rfl rfl rfl) _)
      (by simp only [stepsAt, hpos]; omega) rfl
  · have hform := hp.sends.1 (by rw [hpos]; rfl)
    cases hnext
    exact advances_send (h.congr rfl rfl rfl rfl) rfl rfl nofun ⟨fun _ => hform, nofun⟩ (by simp [stepsAt, hpos])

/-- The step of a running operation: there is one, and it advances. -/
theorem step_advances : ∃ t, step s = .next t ∧ Advances c n s t := by
  have hrow : RowReady s := by
    rintro (hpos | hpos)
    · obtain ⟨i, hi, -⟩ := hp.framed hpos
      simp [hi]
    · have hwrite := hp.sends.1 (by rw [hpos]; rfl)
      exact fetched_txToken hpos (by tauto)
  obtain ⟨t, ht⟩ := step_next h.alone h.refused hrow
  refine ⟨t, ht, ?_⟩
  cases hi : fetched s with
  | some i => exact advances_exec h hp hi (step_exec h.alone hi ▸ ht)
  | none => exact advances_primitive h hp hi (step_primitive h.alone hi ▸ ht)

end

/-! ### The whole operation -/

/-- A running operation ends within the steps that are left to it and one. -/
theorem Continues.ends {c : Config.Params} {n r : Nat} {s : State} (h : Continues c n r s) :
    ∃ k t, k ≤ r + 1 ∧ runSteps k s = .next t ∧ Ended t := by
  induction r using Nat.strong_induction_on generalizing s with
  | _ r ih =>
    obtain ⟨t, hstep, hend | ⟨r', hlt, hnext⟩⟩ := step_advances h.running h.placed
    · exact ⟨1, t, by omega, runSteps_one_of_next hstep, hend⟩
    · have hr' : r' < r := lt_of_lt_of_le hlt h.bound
      obtain ⟨k, u, hk, hrun, hend⟩ := ih r' hr' hnext
      exact ⟨k + 1, u, by omega, runSteps_step hstep hrun, hend⟩

section
variable (c : Config.Params) (n : Nat)

/-- A bound on the steps left at any position. -/
def positionSteps : Nat :=
  attemptSteps c + receiveSteps c + sendSteps c + commandSteps c + blockSteps c * (n + 2) + c.powerupDummyBytes.toNat + 6

/-- A bound on the steps of an operation, by the parameters and the block count (R31). -/
def operationSteps : Nat := attemptSteps c * 8 + positionSteps c n + 2

theorem loopSteps_le (i : Nat) : loopSteps c i ≤ loopSteps c 0 :=
  Nat.add_le_add_left (Nat.mul_le_mul_left _ (Nat.sub_le_sub_left (Nat.zero_le i) _)) _

theorem transferSteps_le (b : Nat) : transferSteps c n b ≤ blockSteps c * (n + 2) := by
  refine Nat.mul_le_mul_left _ ?_
  unfold blocksLeft
  split <;> omega

theorem afterCommand_le (f : Form) (i b : Nat) :
    afterCommand c n f i b ≤ attemptSteps c + receiveSteps c + sendSteps c + blockSteps c * (n + 2) := by
  have hloop := loopSteps_le c i
  have htransfer := transferSteps_le c n b
  have hvoltage : voltageSteps c ≤ loopSteps c 0 := by
    unfold loopSteps
    omega
  have hcsd : csdSteps c ≤ voltageSteps c := by
    unfold voltageSteps
    omega
  cases f <;> simp only [afterCommand, attemptSteps, probeSteps] <;> unfold commandSteps <;> omega

theorem stepsAt_le (q : Seq) (b : Nat) : stepsAt c n q b ≤ positionSteps c n := by
  have hloop := loopSteps_le c q.iter
  have hvoltage : voltageSteps c ≤ loopSteps c 0 := by
    unfold loopSteps
    omega
  have hcommand := afterCommand_le c n q.form q.iter b
  have htransfer := transferSteps_le c n b
  have hreceive : afterReceive c n q.form b ≤ commandSteps c + 6 + blockSteps c * (n + 2) := by
    unfold afterReceive
    split <;> omega
  have hsend : afterSend c n q.tok b ≤ blockSteps c * (n + 2) := by
    unfold afterSend
    split <;> omega
  have hattempt : commandSteps c + probeSteps c + 1 ≤ attemptSteps c := by
    unfold attemptSteps
    omega
  have hprobe : loopSteps c 0 ≤ probeSteps c := by
    unfold probeSteps
    omega
  simp only [positionSteps, commandSteps, receiveSteps, sendSteps] at hcommand hreceive hattempt ⊢
  cases hpos : q.pos <;> simp only [stepsAt, hpos, commandSteps, receiveSteps, sendSteps] <;> omega

theorem stepsLeft_le (s : State) : stepsLeft c n s ≤ attemptSteps c * 8 + positionSteps c n :=
  Nat.add_le_add (Nat.mul_le_mul_left _ (Nat.sub_le 8 _)) (stepsAt_le c n _ _)

end

/-! ### From the invariant -/

theorem running_of_inv {s : State} (hinv : Machine.Inv s = true) (hv : s.cfg.valid = true)
    (halone : framerAlone s = true) (hbusy : s.op.busy = true) : Running s.cfg (blockCount s) s := by
  obtain ⟨-, -, -, -, -, hattempt, -⟩ := (inv_iff s).1 hinv
  obtain ⟨⟨-, hhost⟩, hrefused⟩ := alone_of_framerAlone hv halone
  simp only [attemptBounded, Bool.and_eq_true, decide_eq_true_eq] at hattempt
  obtain ⟨⟨height, -⟩, -⟩ := hattempt
  exact ⟨rfl, hv, hhost, hrefused, rfl, hbusy, height⟩

theorem attempts_of_inv {s : State} (hinv : Machine.Inv s = true) (hpos : posBeforeAttempt s.seq.pos = true) :
    s.op.attempt.toNat < 8 := by
  obtain ⟨-, -, -, -, -, hattempt, -⟩ := (inv_iff s).1 hinv
  unfold attemptBounded at hattempt
  cases hp : s.seq.pos <;> rw [hp] at hpos hattempt <;> cases hpos
  case initClock | initDeassert | powerup =>
    have hzero : s.op.attempt = 0 := by simpa using (Bool.and_eq_true_iff.1 (Bool.and_eq_true_iff.1 hattempt).1).2
    rw [hzero]
    decide
  all_goals exact of_decide_eq_true (Bool.and_eq_true_iff.1 hattempt).2

/-- Where no frame must go out, the invariant says all that is asked of a running operation's position. -/
theorem placed_of_inv {s : State} (hinv : Machine.Inv s = true) (hbusy : s.op.busy = true)
    (hissue : s.seq.pos ≠ .cmdIssue) : Placed s := by
  obtain ⟨hagrees, hcs, -⟩ := (inv_iff s).1 hinv
  refine ⟨fun hidle => ?_, fun hrel => ?_, attempts_of_inv hinv, fun h => absurd h hissue, sendFits_of_inv hinv⟩
  · simp [busyAgrees, hidle, hbusy] at hagrees
  · simpa [csAgrees, hrel] using hcs

/-- Where a frame must go out, it is one of the table's, and its call is the first step, whatever its form. -/
theorem step_of_inv_cmdIssue {s : State} (hinv : Machine.Inv s = true) (hv : s.cfg.valid = true)
    (halone : framerAlone s = true) (hbusy : s.op.busy = true) (hissue : s.seq.pos = .cmdIssue) :
    ∃ t, step s = .next t ∧ Running s.cfg (blockCount s) t ∧ Placed t := by
  have h := running_of_inv hinv hv halone hbusy
  cases hi : fetched s with
  | none => exact absurd hi (rowReady_of_inv hinv (.inl hissue))
  | some i =>
    obtain ⟨-, f, hf⟩ | ⟨hp, -⟩ | ⟨hp, -⟩ | ⟨hp, -⟩ | ⟨hp, -⟩ | ⟨hp, -⟩ := fetched_cases hi
    case inl =>
      obtain ⟨arg, crc, he⟩ := exec_of_frame hf s
      exact ⟨_, (step_exec h.alone hi).trans he, h.congr rfl rfl rfl rfl, placed_of_plain rfl nofun⟩
    all_goals simp [hissue] at hp

/-- Settles O57: each step leaves fewer steps, from the first one on at which FRAME holds the frame of its form. -/
theorem everyOperationEnds : Obligations.EveryOperationEnds := by
  unfold Obligations.EveryOperationEnds
  refine ⟨operationSteps, fun s hinv hv halone hbusy => ?_⟩
  have ends : ∀ t, Running s.cfg (blockCount s) t → Placed t → ∃ k u, k + 1 ≤ operationSteps s.cfg (blockCount s) ∧
      runSteps k t = .next u ∧ Ended u := fun t ht hplaced => by
    obtain ⟨k, u, hk, hrun, hend⟩ := Continues.ends ⟨ht, hplaced, stepsLeft_le s.cfg (blockCount s) t⟩
    exact ⟨k, u, Nat.succ_le_succ hk, hrun, hend⟩
  by_cases hissue : s.seq.pos = .cmdIssue
  · obtain ⟨t, hstep, ht, hplaced⟩ := step_of_inv_cmdIssue hinv hv halone hbusy hissue
    obtain ⟨k, u, hk, hrun, hend⟩ := ends t ht hplaced
    exact ⟨k + 1, u, hk, runSteps_step hstep hrun, hend⟩
  · obtain ⟨k, u, hk, hrun, hend⟩ := ends s (running_of_inv hinv hv halone hbusy) (placed_of_inv hinv hbusy hissue)
    exact ⟨k, u, by omega, hrun, hend⟩

end Sys2Proof.Proofs
end
